-- ==== Sys2Proof/Word.lean ====
section
/-! DEFINITION. The words the GC240 exchanges: characters, half words, groups and the condition word
(spec/12, R174, R176, R177). Quantities of the station itself are natural numbers or integers. -/

namespace Sys2Proof

/-- One character of the bus, a lane or the descriptor (R174). -/
abbrev Byte := BitVec 8

/-- A two-character quantity (R174). -/
abbrev HalfWord := BitVec 16

/-- The four data characters of a group, character 1 in bits 31 to 24 (R174). -/
abbrev Group := BitVec 32

/-- The 22 flags of the condition word, bit 0 first (R177). -/
abbrev ConditionWord := BitVec 22

end Sys2Proof
end

