-- ==== Sys2Proof/Config.lean ====
section
/-! DEFINITION. What the part fixes (capacities and code values of the spec) and the free values, which the
spec leaves open: each free value is a constant without a body, so a statement holds whatever it is. -/

namespace Sys2Proof.Config

/-- The Peer Table never holds more than 48 entries (R5). -/
def peerCapacity : Nat := 48

/-- The Receive Queue holds at most 8 frames (R156). -/
def rxCapacity : Nat := 8

/-- The Transmit Queue holds at most 6 entries (R157). -/
def txCapacity : Nat := 6

/-- An entry is abandoned when its attempt count reaches 8 (R160). -/
def maxAttempts : Nat := 8

/-- The first holdoff window of an entry, in character times (R158). -/
def firstWindow : Nat := 8

/-- The largest holdoff window, in character times (R160). -/
def lastWindow : Nat := 128

/-- Counters saturate here (R3). -/
def counterMax : Nat := 65535

/-- Flows lie from 0 to 20000 (spec/00, Units and Ranges). -/
def flowMax : Nat := 20000

/-- The descriptor is 106 characters long (R169). -/
def descriptorLength : Nat := 106

/-- Every one-second timer, in tenths of a second. -/
def oneSecond : Nat := 10

/-- DESIGN CHOICE (log 3). The n-th draw of a holdoff, before it is reduced below the window: "each draw
may give any whole number from 0 to W - 1, and draws are independent" (R159). A free value: safe. -/
opaque holdoffDraw : Nat → Nat

/-- DESIGN CHOICE (log 6). Whether the limiter factor L, which a transfer report always carries (R33) and
no entry keeps (R7), counts as a mandatory field of R9. A free value: safe. -/
opaque limiterMandatory : Bool

/-- DESIGN CHOICE (log 6). Whether a class of 255, all ones across its width, is an absent code (R174) or a
class above 3 (R9). A free value: safe. -/
opaque classAllOnesAbsent : Bool

/-- DESIGN CHOICE (log 19). The levels of the strap pins at the n-th sampling that a RESTART brings (R167, R169), 1 for
high: BAND2, BAND1, BAND0 and BAND_END from bit 3 down. "A later change of a strap pin" shows at the next reset (R169),
and no event of the table brings one. A free value: safe. -/
opaque restartStraps : Nat → BitVec 4

/-- DESIGN CHOICE (log 7). Whether a CLEAR_CONDITIONS clears before the offer of its own reply drops that reply and so sets
REPLY_LOST, or after (R146, R157, R165), at given counts of draws and of replies lost, which tell one such drop from
another. A free value: safe. -/
opaque clearFirst : Nat → Nat → Bool

/-- DESIGN CHOICE (log 27). The flags WIDE, STARVED, LOCAL and SHED, from bit 0 up, that the view of a PLANT entry carries in
P4: the entry holds none of them (R8) and R180 gives them no value. Applied to the counts of draws and of commands
accepted, which tell one view from another. A free value: safe. -/
opaque plantViewFlags : Nat → Nat → BitVec 4

/-- DESIGN CHOICE (log 28). The FAILSAFE flag of a SAFE drive record: R170 sets SAFE and R181 gives FAILSAFE a place, and
neither gives it a value there. Applied to the number of drive records sent since the reset, which tells one record from
another. A free value: safe. -/
opaque safeRecordFailsafe : Nat → Bool

/-- DESIGN CHOICE (log 29). The bits that R180 names no field for in a transfer station's own view: bit 6 of character 4 of
the first group, then bits 7 and 6 of character 4 of D6. Applied to the counts of draws and of commands accepted, which tell
one view from another. A free value: safe. -/
opaque ownViewSpare : Nat → Nat → BitVec 3

end Sys2Proof.Config
end

