-- ==== Sys2Proof/Syntax.lean ====
section
/-! DEFINITION. The commands of the GC240: one constructor for each row of spec/opcode_table.json, each an
event that is whole and indivisible (spec/95). An operand says what the event brings from outside, or which
of the orders that the rules leave open is taken inside it (log 7). -/

namespace Sys2Proof

/-- The discrete inputs IN0 to IN3. -/
inductive InputName where
  | in0 | in1 | in2 | in3
  deriving DecidableEq, Repr

/-- The measured fields of the two roles (R122). -/
inductive FieldName where
  | ts | tr | q | dp | vf | qb | qavail
  deriving DecidableEq, Repr

/-- The level of a pin. -/
inductive Level where
  | low | high
  deriving DecidableEq, Repr

/-- The four strap pins as they stand (R169). -/
structure StrapPins where
  band2 : Level
  band1 : Level
  band0 : Level
  bandEnd : Level
  deriving DecidableEq, Repr

/-- A group as the receiver hears it: four data characters, the check character, and whether one of them
had a framing error (R152, R153). -/
structure RawGroup where
  c1 : Byte
  c2 : Byte
  c3 : Byte
  c4 : Byte
  check : Byte
  framingError : Bool
  deriving DecidableEq, Repr

/-- When the computation that answers the publication of Qr is taken (R53): before the Valve Loop reads the grant;
after that read and before the change trigger of the same control-period end, which reads the share outcome and the
condition word (R40, R144); or after the whole event, as a SHARE_COMPUTATION. -/
inductive GrantOrder where
  | computationFirst | readThenComputation | readFirst
  deriving DecidableEq, Repr

/-- Where one event offers an ALARM and another entry: which offer is taken first (R149, R157). -/
inductive OfferOrder where
  | alarmFirst | otherFirst
  deriving DecidableEq, Repr

/-- At a departure, whether the arbiter chooses before the entries offered at the same moment join, or after (R158). With
latchFirst the TX_ABANDON of an abandonment is latched, and the ALARM it calls for offered to the queue as it stands, before
the entry departs (R43, R157, R160); an entry that is sent latches nothing, and latchFirst is then offersFirst. -/
inductive ChoiceOrder where
  | choiceFirst | offersFirst | latchFirst
  deriving DecidableEq, Repr

/-- The 44 events of spec/opcode_table.json, in the table's order. -/
inductive Instr where
  | resetPinAssert
  | resetPinRelease (pins : StrapPins)
  | descriptorReadComplete (bytes : List Byte)
  | safeRecordTimerExpiry
  | joinTimerExpiry (order : OfferOrder)
  | holdTimerExpiry
  | valveLoopControlPeriodExpiry (order : GrantOrder)
  | headControlPeriodExpiry
  | shareComputation
  | ageTimerExpiry (number : Nat)
  | takeStationReport
  | takeAlarmFrame
  | limitBlock
  | limitCancel
  | shed (order : OfferOrder)
  | clearConditions
  | hold
  | release
  | forget
  | restart
  | readView
  | readCounters
  | blockTimerExpiry
  | shedTimerExpiry
  | reportIntervalExpiry
  | spacingTimerExpiry
  | sampleRecord (characters : List Byte)
  | sampleTimerExpiry
  | fieldHoldTimerExpiry (field : FieldName)
  | rawLevelChange (input : InputName) (level : Level)
  | debounceTimerExpiry (input : InputName)
  | silenceTimerExpiry
  | frameReceived (group : RawGroup)
  | frameDiscarded (group : RawGroup)
  | breakDetected (fromOwnJam : Bool)
  | lineIdle
  | startBitHeard
  | attemptStart
  | collision
  | jamEnd (choice : ChoiceOrder) (order : OfferOrder)
  | entrySent (choice : ChoiceOrder) (order : OfferOrder)
  | groupComplete (group : RawGroup)
  | markerReceived (character : Byte)
  | sampleRecordBroken
  deriving DecidableEq, Repr

end Sys2Proof
end

