-- ==== Sys2Proof/WellFormed.lean ====
section
/-! DEFINITION. Which commands the interfaces can bring: the descriptor read is 106 characters (R169), an age
timer belongs to a station number (R6), a sample record is complete (R124, R181). -/

namespace Sys2Proof

/-- A sample record is complete: the lead character, a field-set code, and the three characters of each
field of that set; a code naming neither set ends the record at once (R124, R181). -/
def sampleRecordComplete (characters : List Byte) : Bool :=
  match characters with
  | lead :: code :: rest =>
    lead == 0x55#8 &&
      (if code = 1#8 then rest.length == 18
       else if code = 2#8 then rest.length == 15
       else rest.isEmpty)
  | _ => false

/-- The operands of a command are such as its interface can carry. -/
def Instr.wellFormed : Instr → Bool
  | .descriptorReadComplete bytes => bytes.length == Config.descriptorLength
  | .ageTimerExpiry number => decide (1 ≤ number) && decide (number ≤ 239)
  | .sampleRecord characters => sampleRecordComplete characters
  | .resetPinAssert => true
  | .resetPinRelease _ => true
  | .safeRecordTimerExpiry => true
  | .joinTimerExpiry _ => true
  | .holdTimerExpiry => true
  | .valveLoopControlPeriodExpiry _ => true
  | .headControlPeriodExpiry => true
  | .shareComputation => true
  | .takeStationReport => true
  | .takeAlarmFrame => true
  | .limitBlock => true
  | .limitCancel => true
  | .shed _ => true
  | .clearConditions => true
  | .hold => true
  | .release => true
  | .forget => true
  | .restart => true
  | .readView => true
  | .readCounters => true
  | .blockTimerExpiry => true
  | .shedTimerExpiry => true
  | .reportIntervalExpiry => true
  | .spacingTimerExpiry => true
  | .sampleTimerExpiry => true
  | .fieldHoldTimerExpiry _ => true
  | .rawLevelChange _ _ => true
  | .debounceTimerExpiry _ => true
  | .silenceTimerExpiry => true
  | .frameReceived _ => true
  | .frameDiscarded _ => true
  | .breakDetected _ => true
  | .lineIdle => true
  | .startBitHeard => true
  | .attemptStart => true
  | .collision => true
  | .jamEnd _ _ => true
  | .entrySent _ _ => true
  | .groupComplete _ => true
  | .markerReceived _ => true
  | .sampleRecordBroken => true

end Sys2Proof
end

