-- ==== Sys2Proof/Decode.lean ====
section
/-! DEFINITION. The command a table word spells. No row of spec/opcode_table.json carries bits (each row's
"fields" is empty and none has "fixed"), so no word spells a command: every word is rejected. -/

namespace Sys2Proof

/-- The command that the low nbits bits of w spell by the table's bits: none, for every word, since the
table gives no row any bits (spec/opcode_table.json). -/
def decodeTableWord (_nbits _w : Nat) : Option Instr := none

end Sys2Proof
end

