-- ==== Sys2Proof/Machine/Arith.lean ====
section
/-! DEFINITION. The arithmetic conventions of R1 and the saturating counters of R3. -/

namespace Sys2Proof.Machine

/-- Clamp into a range (R1). -/
def clampNat (lo hi n : Nat) : Nat := max lo (min hi n)

/-- Clamp a signed quantity into a range (R1). -/
def clampInt (lo hi n : Int) : Int := max lo (min hi n)

/-- Limit a change to plus or minus a bound (R1). -/
def limitChange (bound : Nat) (d : Int) : Int := clampInt (-(bound : Int)) (bound : Int) d

/-- Division truncated toward zero (R1). -/
def truncDiv (a : Int) (b : Nat) : Int := Int.tdiv a (b : Int)

/-- Move a quantity that is not negative by a signed change and clamp it into a range (R96, R118). -/
def moveWithin (lo hi n : Nat) (d : Int) : Nat :=
  (clampInt (lo : Int) (hi : Int) ((n : Int) + d)).toNat

/-- Increment a counter, which saturates at 65535 (R3). -/
def countUp (n : Nat) : Nat := min Config.counterMax (n + 1)

/-- The difference of two quantities without its sign. -/
def distance (a b : Nat) : Nat := if a ≤ b then b - a else a - b

/-- The least of a value and those of the others that are present (R82). -/
def leastPresent (n : Nat) (others : List (Option Nat)) : Nat :=
  others.foldl (fun acc o => match o with | some m => min acc m | none => acc) n

/-- Take the first element that satisfies p out of a list: the element and the others in their order. -/
def takeFirst {α : Type} (p : α → Bool) : List α → Option (α × List α)
  | [] => none
  | a :: rest =>
    if p a then some (a, rest)
    else
      match takeFirst p rest with
      | some (b, others) => some (b, a :: others)
      | none => none

/-- Take the last element that satisfies p out of a list: the element and the others in their order. -/
def takeLast {α : Type} (p : α → Bool) (l : List α) : Option (α × List α) :=
  match takeFirst p l.reverse with
  | some (a, others) => some (a, others.reverse)
  | none => none

end Sys2Proof.Machine
end

