-- ==== Sys2Proof/Machine/State.lean ====
section
/-! DEFINITION. The state of the GC240, block by block as spec/00 "Block Diagram" divides it, and the state
right after reset. Every field names the rule that gives it; log 2 lists the values the model chose. -/

namespace Sys2Proof.Machine

/-- No event of the spec stops the station (INVENTORY, Faults): there is no fault. -/
inductive Fault where
  deriving DecidableEq, Repr

/-- Why a command has no meaning. -/
inductive Refusal where
  /-- Raised by an arm of exec whose command has no meaning yet (none is left); safe. -/
  | notModelled (mnemonic : String)
  deriving DecidableEq, Repr

/-! ### Timers and names -/

/-- A timer runs for the duration it was started for, in tenths of a second, or is stopped (R4). -/
inductive Timer where
  | stopped
  | running (tenths : Nat)
  deriving DecidableEq, Repr

/-- The role of a station (spec/00, Station Roles). -/
inductive Role where
  | transfer | plant
  deriving DecidableEq, Repr

/-- The station mode (R138). -/
inductive Mode where
  | starting | unconfigured | joining | running | hold
  deriving DecidableEq, Repr

/-- One value for each of the four inputs. -/
structure PerInput (α : Type) where
  in0 : α
  in1 : α
  in2 : α
  in3 : α
  deriving DecidableEq, Repr

/-! ### Station Control (R138, R168 to R173, R182) -/

/-- The end of the range that the straps take the drive band from (R169, R172). -/
inductive BandEnd where
  | top | bottom
  deriving DecidableEq, Repr

/-- The strap reading kept from the entry to STARTING (R169). -/
structure StrapReading where
  code : Nat
  bandEnd : BandEnd
  deriving DecidableEq, Repr

/-- The bounds within which the drive value is held (R172). -/
structure DriveBand where
  lo : Nat
  hi : Nat
  deriving DecidableEq, Repr

/-- A sector range, with whether it is used as its base and limit stood before clamping (R10, R171). -/
structure SectorRange where
  base : Nat
  limit : Nat
  used : Bool
  deriving DecidableEq, Repr

/-- The descriptor's fields in the order of R182; times in seconds or tenths as R182 gives them. -/
structure Descriptor where
  number : Nat
  role : Role
  ownClass : Nat
  bitRate : Nat
  lockEnable : Bool
  staleTime : Nat
  joinTime : Nat
  lostTime : Nat
  silenceTime : Nat
  reportInterval : Nat
  minSpacing : Nat
  controlPeriod : Nat
  sampleTimeout : Nat
  holdTime : Nat
  debounce : Nat
  filterA : Nat
  sectors : List SectorRange
  dTmin : Nat
  dThys : Nat
  lFloor : Nat
  lTight : Nat
  lRelax : Nat
  kv : Nat
  rMax : Nat
  vWide : Nat
  failPosition : Nat
  softLo : Nat
  softHi : Nat
  gFloor : Nat
  gFallback : Nat
  qDef : Nat
  dpReq : Nat
  reportDelta : Nat
  starveMargin : Nat
  starveCount : Nat
  hMin : Nat
  hMax : Nat
  hStart : Nat
  hIsolated : Nat
  hStep : Nat
  kh : Nat
  reserve : Nat
  permissions : List Byte
  barred : List Byte
  alarmMask : BitVec 24
  urgentMask : BitVec 24
  changeMask : Byte
  functionCodes : PerInput Byte
  activeLevels : Byte
  deriving DecidableEq, Repr

/-- The record that stands for "no descriptor" where one is read; no event that reads it acts while no
descriptor is loaded (R168, R170). -/
def Descriptor.blank : Descriptor where
  number := 0
  role := .transfer
  ownClass := 0
  bitRate := 0
  lockEnable := false
  staleTime := 0
  joinTime := 0
  lostTime := 0
  silenceTime := 0
  reportInterval := 0
  minSpacing := 0
  controlPeriod := 0
  sampleTimeout := 0
  holdTime := 0
  debounce := 0
  filterA := 0
  sectors := []
  dTmin := 0
  dThys := 0
  lFloor := 0
  lTight := 0
  lRelax := 0
  kv := 0
  rMax := 0
  vWide := 0
  failPosition := 0
  softLo := 0
  softHi := 0
  gFloor := 0
  gFallback := 0
  qDef := 0
  dpReq := 0
  reportDelta := 0
  starveMargin := 0
  starveCount := 0
  hMin := 0
  hMax := 0
  hStart := 0
  hIsolated := 0
  hStep := 0
  kh := 0
  reserve := 0
  permissions := []
  barred := []
  alarmMask := 0#24
  urgentMask := 0#24
  changeMask := 0#8
  functionCodes := ⟨0#8, 0#8, 0#8, 0#8⟩
  activeLevels := 0#8

/-- What Station Control does on the memory lane (R169). -/
inductive MemorySignal where
  /-- It selects the memory. -/
  | select
  /-- It sends a character. -/
  | send (character : Byte)
  /-- It reads this many bytes in order of rising address. -/
  | read (count : Nat)
  /-- It releases the memory. -/
  | release
  deriving DecidableEq, Repr

/-- Station Control (R138, R168). `strapPins` holds the pins' levels at the last sampling and `strapSamples` counts the
samplings that a RESTART brought (the model's own, log 19); `memoryLane` holds what was done on the memory lane since the
last reset, first to last (log 23). -/
structure StationControl where
  mode : Mode
  pinAsserted : Bool
  joinTimer : Timer
  holdTimer : Timer
  safeTimer : Timer
  restartCause : Bool
  strapPins : StrapPins
  strapSamples : Nat
  strapReading : StrapReading
  descriptor : Option Descriptor
  driveBand : Option DriveBand
  memoryLane : List MemorySignal
  deriving DecidableEq, Repr

/-! ### Line Unit (R151) -/

/-- The line state (R152). -/
inductive LineState where
  | idle | busy | ownTransmit | jam
  deriving DecidableEq, Repr

/-- The receiver (R153): it tests no character until the line is next IDLE, or tests the next character as a
marker, or gathers the groups of a frame (those decoded so far, header group 1 first). -/
inductive Receiver where
  | skipping
  | testing
  | gathering (groups : List Group)
  deriving DecidableEq, Repr

/-- A frame: the characters of its two header groups and its body groups (R153, R176). -/
structure Frame where
  destination : Byte
  source : Byte
  kind : Byte
  sequence : Byte
  groupCount : Byte
  flags : Byte
  senderRole : Byte
  senderMode : Byte
  body : List Group
  deriving DecidableEq, Repr

/-- A reply waiting to be sent: everything but its sender mode is fixed when it is built (R165); the mark
says that it answers an admitted RESTART (R162). -/
structure Reply where
  destination : Byte
  sequence : Byte
  groups : List Group
  restart : Bool
  deriving DecidableEq, Repr

/-- An entry of the Transmit Queue (R151). A REPORT holds its sequence number and START flag, an ALARM its
sequence number, from the first attempt start on (R36, R37, R150). -/
inductive TxEntry where
  | report (first : Option (Byte × Bool))
  | alarm (sequence : Option Byte)
  | reply (r : Reply)
  deriving DecidableEq, Repr

/-- The Line Unit (R151). The Transmit Queue is the in-flight entry together with the waiting ones, which
stand in order of offering. `draws` counts the holdoff draws made (log 3); `sending` holds the characters of
the frame on the line. -/
structure LineUnit where
  lineState : LineState
  receiver : Receiver
  rxQueue : List Frame
  waiting : List TxEntry
  inFlight : Option TxEntry
  attempts : Nat
  window : Nat
  holdoff : Option Nat
  draws : Nat
  sending : List Byte
  silenceTimer : Timer
  isolated : Bool
  goodFrames : Nat
  correctedGroups : Nat
  damagedFrames : Nat
  rxOverruns : Nat
  collisions : Nat
  abandoned : Nat
  repliesLost : Nat
  deriving DecidableEq, Repr

/-! ### Peer Table (R5 to R8, R28) -/

/-- Whether an entry counts as of this station's sector (R10). -/
inductive Membership where
  | inSector | outside
  deriving DecidableEq, Repr

/-- Freshness of an entry (R19). -/
inductive Freshness where
  | fresh | stale | lost
  deriving DecidableEq, Repr

/-- The mode a sender can name in a header (R176). -/
inductive PeerMode where
  | running | hold
  deriving DecidableEq, Repr

/-- The outcome of a share computation (R48, R60). -/
inductive ShareOutcome where
  | full | prorated | cut | isolated | noOffer
  deriving DecidableEq, Repr

/-- The transfer part of an entry (R7). -/
structure TransferPart where
  qr : Nat
  cls : Nat
  grant : Nat
  valve : Nat
  margin : Option Int
  wide : Bool
  starved : Bool
  localHand : Bool
  shed : Bool
  outcome : ShareOutcome
  deriving DecidableEq, Repr

/-- The plant part of an entry (R8). -/
structure PlantPart where
  offer : Nat
  head : Nat
  flow : Option Nat
  critical : Option Nat
  criticalMargin : Option Int
  deriving DecidableEq, Repr

/-- An entry holds one of the two parts, as its role says (R8). -/
inductive RolePart where
  | transfer (t : TransferPart)
  | plant (p : PlantPart)
  deriving DecidableEq, Repr

/-- An entry of the Peer Table (R6, R18). -/
structure PeerEntry where
  number : Nat
  membership : Membership
  freshness : Freshness
  age : Nat
  ageTimer : Timer
  lastSequence : Byte
  acceptedCount : Nat
  peerMode : PeerMode
  isolated : Bool
  word : ConditionWord
  part : RolePart
  deriving DecidableEq, Repr

/-- The Peer Table (R5, R28). -/
structure PeerTable where
  entries : List PeerEntry
  duplicates : Nat
  outOfOrder : Nat
  tableRefusals : Nat
  deriving DecidableEq, Repr

/-! ### Report Scheduler (R31, R38) -/

/-- The last-sent snapshot (R38). -/
inductive Snapshot where
  | transfer (qr : Nat) (wide starved localHand shed isolated : Bool) (outcome : ShareOutcome)
      (word : ConditionWord)
  | plant (offer : Nat) (isolated trip : Bool) (word : ConditionWord)
  deriving DecidableEq, Repr

/-- The Report Scheduler (R31). -/
structure ReportScheduler where
  sequence : Byte
  startCountdown : Nat
  intervalTimer : Timer
  spacingTimer : Timer
  reportDue : Bool
  snapshot : Option Snapshot
  deriving DecidableEq, Repr

/-! ### Share Engine (R47, R48) -/

/-- The Allocation Record (R48); its grant is the published grant G (R47). -/
structure AllocationRecord where
  requestUsed : Nat
  capacity : Nat
  freshPlants : Nat
  stalePlants : Nat
  transferPeers : Nat
  s0 : Option Nat
  s1 : Option Nat
  s2 : Option Nat
  s3 : Option Nat
  remainder : Option Nat
  ownShare : Option Nat
  floorApplied : Bool
  grant : Nat
  outcome : ShareOutcome
  deriving DecidableEq, Repr

/-- The Share Engine (R47). `triggers` counts the triggers of R49 whose computation is still to be taken
(the model's own field, log 4). -/
structure ShareEngine where
  record : AllocationRecord
  triggers : Nat
  deriving DecidableEq, Repr

/-! ### Limit Unit (R69, R70) -/

/-- What becomes of a block at the end of its duration (R70). -/
inductive BlockMode where
  | single | repeating | chain
  deriving DecidableEq, Repr

/-- A demand-limit block (R70). -/
structure Block where
  limit : Nat
  duration : Nat
  mode : BlockMode
  deriving DecidableEq, Repr

/-- The active block (R69, R76). -/
inductive ActiveBlock where
  | none
  | running (block : Block) (remaining : Nat)
  | held (block : Block)
  deriving DecidableEq, Repr

/-- The shed (R69). -/
inductive ShedState where
  | off
  | inForce (threshold : Nat) (remaining : Nat)
  deriving DecidableEq, Repr

/-- The Limit Unit (R69). -/
structure LimitUnit where
  active : ActiveBlock
  pendingBlock : Option Block
  shed : ShedState
  blockTimer : Timer
  shedTimer : Timer
  deriving DecidableEq, Repr

/-! ### Valve Loop (R84) and Head Reset Unit (R106) -/

/-- The Valve Loop (R84). -/
structure ValveLoop where
  limiter : Nat
  lastDt : Option Int
  qreq : Nat
  qr : Nat
  qt : Nat
  command : Nat
  starve : Nat
  starved : Bool
  wide : Bool
  failsafe : Bool
  localHand : Bool
  margin : Option Int
  periodTimer : Timer
  deriving DecidableEq, Repr

/-- The head case (R106, R113). -/
inductive HeadCase where
  | none | joining | hold | isolated | noPeers | starved | proportional
  deriving DecidableEq, Repr

/-- The Head Reset Unit (R106). -/
structure HeadResetUnit where
  setpoint : Nat
  offer : Nat
  offerBasis : Option Nat
  critical : Option Nat
  criticalMargin : Option Int
  eligible : Nat
  starvedEligible : Nat
  headCase : HeadCase
  lastMovement : Int
  periodTimer : Timer
  deriving DecidableEq, Repr

/-! ### Measurement Unit (R122) -/

/-- The state of a measured field (R126). -/
inductive FieldState where
  | good | held | absent
  deriving DecidableEq, Repr

/-- A measured field (R122). -/
structure Field where
  value : Option Nat
  state : FieldState
  holdTimer : Timer
  deriving DecidableEq, Repr

/-- The measured fields of both roles; those not of the role stay ABSENT (R122). -/
structure Fields where
  ts : Field
  tr : Field
  q : Field
  dp : Field
  vf : Field
  qb : Field
  qavail : Field
  deriving DecidableEq, Repr

/-- The functions an input may have (R135). -/
inductive InputFunction where
  | none | localHand | isolationClosed | plantTrip | maintLock
  deriving DecidableEq, Repr

/-- A discrete input (R122, R133); `active` is the debounced state ACTIVE. -/
structure Input where
  raw : Level
  active : Bool
  debounceTimer : Timer
  changed : Bool
  deriving DecidableEq, Repr

/-- The Measurement Unit (R122, R135). -/
structure MeasurementUnit where
  fields : Fields
  dpf : Option Nat
  sampleTimer : Timer
  inputs : PerInput Input
  functions : PerInput InputFunction
  deriving DecidableEq, Repr

/-! ### Command Handler (R162) and Condition Unit (R143, R149, R150) -/

/-- The Command Handler (R162). `restartDue` holds within one event only: a marked reply has left the
Transmit Queue, so the event ends in the reset (R167, log 5). -/
structure CommandHandler where
  accepted : Nat
  refused : Nat
  restartDue : Bool
  deriving DecidableEq, Repr

/-- The Condition Unit (R143, R149, R150). The latches stand in the order of R177. -/
structure ConditionUnit where
  latches : BitVec 14
  alarmDue : Bool
  alarmSequence : Byte
  deriving DecidableEq, Repr

/-! ### The whole station -/

/-- The station and the queue of commands that are waiting. `driveLane` holds the drive records sent since
the reset, newest first (R103, R119, R170). -/
structure State where
  pending : List Instr
  control : StationControl
  line : LineUnit
  peers : PeerTable
  reports : ReportScheduler
  share : ShareEngine
  limit : LimitUnit
  valve : ValveLoop
  head : HeadResetUnit
  measure : MeasurementUnit
  command : CommandHandler
  condition : ConditionUnit
  driveLane : List (List Byte)
  deriving DecidableEq, Repr

/-! ### Reset values -/

/-- R138, R168: Station Control after a reset by the pin, which is still asserted. The strap pins' levels and the strap
reading before the first sampling are DESIGN CHOICE (log 2: no rule gives them), the count of samplings is the model's own
(log 19). -/
def StationControl.atReset : StationControl where
  mode := .starting
  pinAsserted := true
  joinTimer := .stopped
  holdTimer := .stopped
  safeTimer := .stopped
  restartCause := false
  strapPins := ⟨.low, .low, .low, .low⟩
  strapSamples := 0
  strapReading := ⟨0, .top⟩
  descriptor := none
  driveBand := none
  memoryLane := []

/-- R151: the Line Unit after a reset. -/
def LineUnit.atReset : LineUnit where
  lineState := .busy
  receiver := .skipping
  rxQueue := []
  waiting := []
  inFlight := none
  attempts := 0
  window := 8
  holdoff := none
  draws := 0
  sending := []
  silenceTimer := .stopped
  isolated := false
  goodFrames := 0
  correctedGroups := 0
  damagedFrames := 0
  rxOverruns := 0
  collisions := 0
  abandoned := 0
  repliesLost := 0

/-- R29: the Peer Table after a reset. -/
def PeerTable.atReset : PeerTable where
  entries := []
  duplicates := 0
  outOfOrder := 0
  tableRefusals := 0

/-- R31: the Report Scheduler after a reset. -/
def ReportScheduler.atReset : ReportScheduler where
  sequence := 0#8
  startCountdown := 3
  intervalTimer := .stopped
  spacingTimer := .stopped
  reportDue := false
  snapshot := none

/-- R48: the Allocation Record after a reset. -/
def AllocationRecord.atReset : AllocationRecord where
  requestUsed := 0
  capacity := 0
  freshPlants := 0
  stalePlants := 0
  transferPeers := 0
  s0 := none
  s1 := none
  s2 := none
  s3 := none
  remainder := none
  ownShare := none
  floorApplied := false
  grant := 0
  outcome := .noOffer

/-- R47: the Share Engine after a reset. -/
def ShareEngine.atReset : ShareEngine where
  record := .atReset
  triggers := 0

/-- R69: the Limit Unit after a reset. -/
def LimitUnit.atReset : LimitUnit where
  active := .none
  pendingBlock := none
  shed := .off
  blockTimer := .stopped
  shedTimer := .stopped

/-- R84: the Valve Loop after a reset; V takes the fail position at the end of STARTING, and its value
before that "is not seen" (DESIGN CHOICE 0, log 2, also for the V of a plant station, which no loop acts on). -/
def ValveLoop.atReset : ValveLoop where
  limiter := 1000
  lastDt := none
  qreq := 0
  qr := 0
  qt := 0
  command := 0
  starve := 0
  starved := false
  wide := false
  failsafe := true
  localHand := false
  margin := none
  periodTimer := .stopped

/-- R106: the Head Reset Unit after a reset; H takes the clamped H_start at the end of STARTING, and its
value before that "is not seen" (DESIGN CHOICE 0, log 2, also for the H of a transfer station, which no unit acts on). -/
def HeadResetUnit.atReset : HeadResetUnit where
  setpoint := 0
  offer := 0
  offerBasis := none
  critical := none
  criticalMargin := none
  eligible := 0
  starvedEligible := 0
  headCase := .none
  lastMovement := 0
  periodTimer := .stopped

/-- R122: a measured field after a reset. -/
def Field.atReset : Field where
  value := none
  state := .absent
  holdTimer := .stopped

/-- R122: every measured field after a reset. -/
def Fields.atReset : Fields :=
  ⟨.atReset, .atReset, .atReset, .atReset, .atReset, .atReset, .atReset⟩

/-- R122: an input after a reset, its raw level being as the pin stands. -/
def Input.atReset (raw : Level) : Input where
  raw := raw
  active := false
  debounceTimer := .stopped
  changed := false

/-- R122: the Measurement Unit after a reset, the raw levels being as the pins stand. The functions in force before R135
takes them from a descriptor are DESIGN CHOICE NONE (log 2: R122 lists none). -/
def MeasurementUnit.atReset (raw : PerInput Level) : MeasurementUnit where
  fields := .atReset
  dpf := none
  sampleTimer := .stopped
  inputs := ⟨.atReset raw.in0, .atReset raw.in1, .atReset raw.in2, .atReset raw.in3⟩
  functions := ⟨.none, .none, .none, .none⟩

/-- R162: the Command Handler after a reset. -/
def CommandHandler.atReset : CommandHandler where
  accepted := 0
  refused := 0
  restartDue := false

/-- R143, R149, R150: the Condition Unit after a reset. -/
def ConditionUnit.atReset : ConditionUnit where
  latches := 0#14
  alarmDue := false
  alarmSequence := 0#8

/-- The station at power-up, which counts as a reset by the pin (R168): the pin is asserted, mode STARTING,
every block at its reset values; the inputs' raw levels are DESIGN CHOICE LOW (log 2). -/
def State.reset : State where
  pending := []
  control := .atReset
  line := .atReset
  peers := .atReset
  reports := .atReset
  share := .atReset
  limit := .atReset
  valve := .atReset
  head := .atReset
  measure := .atReset ⟨.low, .low, .low, .low⟩
  command := .atReset
  condition := .atReset
  driveLane := []

/-! ### Updates, one block at a time -/

/-- Replace Station Control. -/
def State.setControl (s : State) (b : StationControl) : State := { s with control := b }

/-- Replace the Line Unit. -/
def State.setLine (s : State) (b : LineUnit) : State := { s with line := b }

/-- Replace the Peer Table. -/
def State.setPeers (s : State) (b : PeerTable) : State := { s with peers := b }

/-- Replace the Report Scheduler. -/
def State.setReports (s : State) (b : ReportScheduler) : State := { s with reports := b }

/-- Replace the Share Engine. -/
def State.setShare (s : State) (b : ShareEngine) : State := { s with share := b }

/-- Replace the Limit Unit. -/
def State.setLimit (s : State) (b : LimitUnit) : State := { s with limit := b }

/-- Replace the Valve Loop. -/
def State.setValve (s : State) (b : ValveLoop) : State := { s with valve := b }

/-- Replace the Head Reset Unit. -/
def State.setHead (s : State) (b : HeadResetUnit) : State := { s with head := b }

/-- Replace the Measurement Unit. -/
def State.setMeasure (s : State) (b : MeasurementUnit) : State := { s with measure := b }

/-- Replace the Command Handler. -/
def State.setCommand (s : State) (b : CommandHandler) : State := { s with command := b }

/-- Replace the Condition Unit. -/
def State.setCondition (s : State) (b : ConditionUnit) : State := { s with condition := b }

/-- Send a record on the drive lane. -/
def State.sendDrive (s : State) (record : List Byte) : State :=
  { s with driveLane := record :: s.driveLane }

end Sys2Proof.Machine
end

