-- ==== Sys2Proof/Machine/Formats.lean ====
section
/-! DEFINITION. The layouts of spec/12: how quantities stand in half words and groups (R174), the check
character of a group and its decoding (R175), frames (R176), drive records (R181), and the codes of R176. -/

namespace Sys2Proof.Machine

/-! ### Quantities (R174) -/

/-- An unsigned 16-bit quantity. -/
def u16 (n : Nat) : HalfWord := BitVec.ofNat 16 n

/-- An unsigned 16-bit quantity that may be absent: all ones when it is. -/
def u16Opt : Option Nat → HalfWord
  | some n => u16 n
  | none => 0xFFFF#16

/-- A signed 16-bit quantity in two's complement. -/
def s16 (n : Int) : HalfWord := BitVec.ofInt 16 n

/-- A signed 16-bit quantity that may be absent: -32768 when it is. -/
def s16Opt : Option Int → HalfWord
  | some n => s16 n
  | none => 0x8000#16

/-- A 20-bit quantity that may be absent: all ones when it is. -/
def u20Opt : Option Nat → BitVec 20
  | some n => BitVec.ofNat 20 n
  | none => 0xFFFFF#20

/-- One character holding a number. -/
def u8 (n : Nat) : Byte := BitVec.ofNat 8 n

/-- A bit of a flags character or of an input status. -/
def bit (b : Bool) : BitVec 1 := BitVec.ofBool b

/-- Read an unsigned 16-bit quantity that may be absent. -/
def readU16Opt (w : HalfWord) : Option Nat := if w = 0xFFFF#16 then none else some w.toNat

/-- Read a signed 16-bit quantity that may be absent. -/
def readS16Opt (w : HalfWord) : Option Int := if w = 0x8000#16 then none else some w.toInt

/-- Characters 1 and 2 of a group as one quantity. -/
def Group.high (g : Group) : HalfWord := g.extractLsb' 16 16

/-- Characters 3 and 4 of a group as one quantity. -/
def Group.low (g : Group) : HalfWord := g.extractLsb' 0 16

/-- Character 1 of a group. -/
def Group.c1 (g : Group) : Byte := g.extractLsb' 24 8

/-- Character 2 of a group. -/
def Group.c2 (g : Group) : Byte := g.extractLsb' 16 8

/-- Character 3 of a group. -/
def Group.c3 (g : Group) : Byte := g.extractLsb' 8 8

/-- Character 4 of a group. -/
def Group.c4 (g : Group) : Byte := g.extractLsb' 0 8

/-- Characters 2 to 4 of a group (R177). -/
def Group.tail24 (g : Group) : BitVec 24 := g.extractLsb' 0 24

/-- A group of two half words. -/
def pairGroup (a b : HalfWord) : Group := a ++ b

/-- A group of four characters. -/
def byteGroup (a b c d : Byte) : Group := a ++ b ++ c ++ d

/-- A group of a character and a condition word, whose bits 22 and 23 are zero (R177). -/
def wordGroup (c : Byte) (w : ConditionWord) : Group := c ++ (0#2 ++ w)

/-! ### The check character (R175) -/

/-- The positions of data bits d0 to d31 in the codeword, in that order (R175, step 1). -/
def dataPositions : List Nat :=
  [3, 5, 6, 7, 9, 10, 11, 12, 13, 14, 15, 17, 18, 19, 20, 21, 22, 23, 24, 25, 26, 27, 28, 29, 30, 31,
   33, 34, 35, 36, 37, 38]

/-- The exclusive or of the positions of the data bits that are one, counting from bit k: bit i of it is the
parity of the data positions whose number has bit i set (R175, step 2). -/
def dataSyndrome (g : Group) : Nat → List Nat → Nat
  | _, [] => 0
  | k, p :: rest =>
    Nat.xor (if g.getLsbD k then p else 0) (dataSyndrome g (k + 1) rest)

/-- Whether the low n bits of a number hold an odd count of ones. -/
def oddOnes (v : Nat) : Nat → Bool
  | 0 => false
  | n + 1 => xor (v.testBit n) (oddOnes v n)

/-- The check character of a group (R175): c0 to c5 in bits 0 to 5, the overall parity c6 in bit 6. -/
def checkCharacter (g : Group) : Byte :=
  let c := dataSyndrome g 0 dataPositions
  let odd := xor (oddOnes g.toNat 32) (oddOnes c 6)
  0#1 ++ bit odd ++ BitVec.ofNat 6 c

/-- The outcome of a group (R153). -/
inductive GroupOutcome where
  | clean (g : Group)
  | corrected (g : Group)
  | damaged
  deriving DecidableEq, Repr

/-- The data group with the bit at a position of the codeword inverted; positions 1, 2, 4, 8, 16 and 32
hold check bits, so no data bit changes there (R175). -/
def invertAt (g : Group) (position : Nat) : Group :=
  match dataPositions.findIdx? (· == position) with
  | some k => g ^^^ (1#32 <<< k)
  | none => g

/-- Decode a data group with its check character by the table of R175. -/
def decodeChecked (g : Group) (check : Byte) : GroupOutcome :=
  let s := Nat.xor (dataSyndrome g 0 dataPositions) (check.toNat % 64)
  let odd := xor (oddOnes g.toNat 32) (oddOnes check.toNat 7)
  if check.getLsbD 7 then .damaged
  else if odd then
    if s = 0 then .corrected g
    else if s ≤ 38 then .corrected (invertAt g s)
    else .damaged
  else if s = 0 then .clean g
  else .damaged

/-- Decode a group as heard: a framing error in one of its characters makes it DAMAGED (R153). -/
def decodeGroup (raw : RawGroup) : GroupOutcome :=
  if raw.framingError then .damaged
  else decodeChecked (byteGroup raw.c1 raw.c2 raw.c3 raw.c4) raw.check

/-- A group as its sender puts it on the line (R175). -/
def sentGroup (g : Group) : RawGroup where
  c1 := Group.c1 g
  c2 := Group.c2 g
  c3 := Group.c3 g
  c4 := Group.c4 g
  check := checkCharacter g
  framingError := false

/-! ### Codes (R176) -/

/-- The thirteen kinds of frame (R176). -/
inductive Kind where
  | stationReport | alarm | reply | limitBlock | limitCancel | shed | clearConditions | hold | release
  | forget | restart | readView | readCounters
  deriving DecidableEq, Repr

/-- The code of a kind (R176). -/
def Kind.code : Kind → Byte
  | .stationReport => 1#8
  | .alarm => 2#8
  | .reply => 3#8
  | .limitBlock => 4#8
  | .limitCancel => 5#8
  | .shed => 6#8
  | .clearConditions => 7#8
  | .hold => 8#8
  | .release => 9#8
  | .forget => 10#8
  | .restart => 11#8
  | .readView => 12#8
  | .readCounters => 13#8

/-- Whether a code is one of the thirteen of the kind code table (R155, R176). -/
def isKindCode (c : Byte) : Bool := decide (1 ≤ c.toNat) && decide (c.toNat ≤ 13)

/-- The code of a role (R176). -/
def Role.code : Role → Byte
  | .transfer => 1#8
  | .plant => 2#8

/-- Read a role from a header (R176); TOOL is no station's role. -/
def readRole (c : Byte) : Option Role :=
  if c = 1#8 then some .transfer else if c = 2#8 then some .plant else none

/-- The code of a sender mode (R176). -/
def PeerMode.code : PeerMode → Byte
  | .running => 1#8
  | .hold => 2#8

/-- Read a sender mode (R176). -/
def readPeerMode (c : Byte) : Option PeerMode :=
  if c = 1#8 then some .running else if c = 2#8 then some .hold else none

/-- The code of a share outcome (R176). -/
def ShareOutcome.code : ShareOutcome → Byte
  | .full => 0#8
  | .prorated => 1#8
  | .cut => 2#8
  | .isolated => 3#8
  | .noOffer => 4#8

/-- Read a share outcome (R176). -/
def readShareOutcome (c : Byte) : Option ShareOutcome :=
  if c = 0#8 then some .full
  else if c = 1#8 then some .prorated
  else if c = 2#8 then some .cut
  else if c = 3#8 then some .isolated
  else if c = 4#8 then some .noOffer
  else none

/-- The outcomes of a reply: ACCEPTED or a reason of refusal (R163, R176). -/
inductive ReplyOutcome where
  | accepted | malformed | barred | locked | notPermitted | wrongRole | badValue | noEntry
  deriving DecidableEq, Repr

/-- The code of a reply outcome (R176). -/
def ReplyOutcome.code : ReplyOutcome → Byte
  | .accepted => 0#8
  | .malformed => 1#8
  | .barred => 2#8
  | .locked => 3#8
  | .notPermitted => 4#8
  | .wrongRole => 5#8
  | .badValue => 6#8
  | .noEntry => 7#8

/-- Read a block mode (R176). -/
def readBlockMode (c : Byte) : Option BlockMode :=
  if c = 1#8 then some .single
  else if c = 2#8 then some .repeating
  else if c = 3#8 then some .chain
  else none

/-- The code of an input function (R176). -/
def InputFunction.code : InputFunction → BitVec 3
  | .none => 0#3
  | .localHand => 1#3
  | .isolationClosed => 2#3
  | .plantTrip => 3#3
  | .maintLock => 4#3

/-- Read an input function (R176). -/
def readInputFunction (c : Byte) : Option InputFunction :=
  if c = 0#8 then some .none
  else if c = 1#8 then some .localHand
  else if c = 2#8 then some .isolationClosed
  else if c = 3#8 then some .plantTrip
  else if c = 4#8 then some .maintLock
  else none

/-- The code of a freshness (R176). -/
def Freshness.code : Freshness → Byte
  | .fresh => 0#8
  | .stale => 1#8
  | .lost => 2#8

/-- The code of a membership (R176). -/
def Membership.code : Membership → Byte
  | .inSector => 0#8
  | .outside => 1#8

/-- The code of a head case (R176). -/
def HeadCase.code : HeadCase → Byte
  | .none => 0#8
  | .joining => 1#8
  | .hold => 2#8
  | .isolated => 3#8
  | .noPeers => 4#8
  | .starved => 5#8
  | .proportional => 6#8

/-! ### Frames (R153, R176) -/

/-- The marker character (R176). -/
def marker : Byte := 0x3C#8

/-- The groups of a frame, header groups first (R176). -/
def Frame.groups (f : Frame) : List Group :=
  byteGroup f.destination f.source f.kind f.sequence
    :: byteGroup f.groupCount f.flags f.senderRole f.senderMode :: f.body

/-- The five characters of a group in the order they are sent (R174, R175). -/
def groupCharacters (g : Group) : List Byte :=
  [Group.c1 g, Group.c2 g, Group.c3 g, Group.c4 g, checkCharacter g]

/-- The characters of a frame in the order they are sent (R176). -/
def Frame.characters (f : Frame) : List Byte := marker :: f.groups.flatMap groupCharacters

/-- The frame that two header groups and body groups make (R153). -/
def frameOfGroups (h1 h2 : Group) (body : List Group) : Frame where
  destination := Group.c1 h1
  source := Group.c2 h1
  kind := Group.c3 h1
  sequence := Group.c4 h1
  groupCount := Group.c1 h2
  flags := Group.c2 h2
  senderRole := Group.c3 h2
  senderMode := Group.c4 h2
  body := body

/-- The START flag of a frame's flags character (R176). -/
def Frame.start (f : Frame) : Bool := f.flags.getLsbD 0

/-- Body group k of a frame, counted from 0. -/
def Frame.group (f : Frame) (k : Nat) : Group := f.body.getD k 0#32

/-! ### Drive records (R181) -/

/-- The four characters of a drive record: lead, flags, 16-bit value (R181). -/
def driveRecord (failsafe hold localHand safe : Bool) (value : HalfWord) : List Byte :=
  [0x5A#8, 0#4 ++ bit safe ++ bit localHand ++ bit hold ++ bit failsafe,
   value.extractLsb' 8 8, value.extractLsb' 0 8]

/-- The SAFE drive record: no drive value and the SAFE flag set (R170, R181), with a FAILSAFE flag that no rule gives it
(log 28). The mode is not HOLD and the LOCAL flag stands at its reset value, so both are clear (R84, R103). -/
def safeRecord (failsafe : Bool) : List Byte := driveRecord failsafe false false true 0xFFFF#16

end Sys2Proof.Machine
end

