-- ==== Sys2Proof/Machine/Operands.lean ====
section
/-! DEFINITION. Reading what arrives: the descriptor (R170, R171, R182), the straps (R169), the drive band
(R172), sample records (R124, R125, R181), report bodies (R9, R178) and the values of commands (R164,
R179). -/

namespace Sys2Proof.Machine

/-! ### One value for each input or field -/

/-- The value of one input. -/
def PerInput.get {α : Type} (p : PerInput α) : InputName → α
  | .in0 => p.in0
  | .in1 => p.in1
  | .in2 => p.in2
  | .in3 => p.in3

/-- Replace the value of one input. -/
def PerInput.set {α : Type} (p : PerInput α) (i : InputName) (a : α) : PerInput α :=
  match i with
  | .in0 => { p with in0 := a }
  | .in1 => { p with in1 := a }
  | .in2 => { p with in2 := a }
  | .in3 => { p with in3 := a }

/-- Apply a function to each input's value. -/
def PerInput.mapEach {α β : Type} (f : α → β) (p : PerInput α) : PerInput β :=
  ⟨f p.in0, f p.in1, f p.in2, f p.in3⟩

/-- The values in the order IN0 to IN3. -/
def PerInput.toList {α : Type} (p : PerInput α) : List α := [p.in0, p.in1, p.in2, p.in3]

/-- The bit of a mask that belongs to an input (R182). -/
def InputName.bit : InputName → Nat
  | .in0 => 0
  | .in1 => 1
  | .in2 => 2
  | .in3 => 3

/-- One measured field. -/
def Fields.get (fs : Fields) : FieldName → Field
  | .ts => fs.ts
  | .tr => fs.tr
  | .q => fs.q
  | .dp => fs.dp
  | .vf => fs.vf
  | .qb => fs.qb
  | .qavail => fs.qavail

/-- Replace one measured field. -/
def Fields.set (fs : Fields) (n : FieldName) (f : Field) : Fields :=
  match n with
  | .ts => { fs with ts := f }
  | .tr => { fs with tr := f }
  | .q => { fs with q := f }
  | .dp => { fs with dp := f }
  | .vf => { fs with vf := f }
  | .qb => { fs with qb := f }
  | .qavail => { fs with qavail := f }

/-- Apply a function to every measured field. -/
def Fields.mapEach (f : Field → Field) (fs : Fields) : Fields :=
  ⟨f fs.ts, f fs.tr, f fs.q, f fs.dp, f fs.vf, f fs.qb, f fs.qavail⟩

/-! ### The straps and the descriptor -/

/-- A pin read as 1 when high and 0 when low (R169). -/
def Level.value : Level → Nat
  | .low => 0
  | .high => 1

/-- The strap reading: BAND2 is the most significant bit of the band code, and the band end is TOP when
BAND_END is low (R169). -/
def readStraps (p : StrapPins) : StrapReading where
  code := 4 * Level.value p.band2 + 2 * Level.value p.band1 + Level.value p.band0
  bandEnd := match p.bandEnd with
    | .low => .top
    | .high => .bottom

/-- The strap pins' levels from four bits, 1 for high: BAND2, BAND1, BAND0 and BAND_END from bit 3 down (log 19). -/
def strapPinsOf (levels : BitVec 4) : StrapPins :=
  let level (k : Nat) : Level := if levels.getLsbD k then .high else .low
  ⟨level 3, level 2, level 1, level 0⟩

/-- The character at an offset of the serial memory; one that does not answer returns all ones (R169). -/
def byteAt (bytes : List Byte) (offset : Nat) : Byte := bytes.getD offset 0xFF#8

/-- A one-character field of the descriptor. -/
def fieldAt (bytes : List Byte) (offset : Nat) : Nat := (byteAt bytes offset).toNat

/-- A two-character field of the descriptor, most significant character first (R174). -/
def wideFieldAt (bytes : List Byte) (offset : Nat) : Nat :=
  256 * fieldAt bytes offset + fieldAt bytes (offset + 1)

/-- A three-character mask of the descriptor (R177, R182). -/
def maskAt (bytes : List Byte) (offset : Nat) : BitVec 24 :=
  byteAt bytes offset ++ byteAt bytes (offset + 1) ++ byteAt bytes (offset + 2)

/-- A sector range as the descriptor gives it: unused when its base is greater than its limit (R10). -/
def sectorAt (bytes : List Byte) (offset : Nat) : SectorRange where
  base := fieldAt bytes offset
  limit := fieldAt bytes (offset + 1)
  used := decide (fieldAt bytes offset ≤ fieldAt bytes (offset + 1))

/-- The fields of R182 as they stand in the memory, for the role that the role code names. -/
def rawDescriptor (bytes : List Byte) (role : Role) : Descriptor where
  number := fieldAt bytes 5
  role := role
  ownClass := fieldAt bytes 7
  bitRate := fieldAt bytes 8
  lockEnable := decide (fieldAt bytes 9 ≠ 0)
  staleTime := fieldAt bytes 10
  joinTime := fieldAt bytes 11
  lostTime := wideFieldAt bytes 12
  silenceTime := fieldAt bytes 14
  reportInterval := fieldAt bytes 15
  minSpacing := fieldAt bytes 16
  controlPeriod := fieldAt bytes 17
  sampleTimeout := fieldAt bytes 18
  holdTime := fieldAt bytes 19
  debounce := fieldAt bytes 20
  filterA := fieldAt bytes 21
  sectors := [sectorAt bytes 22, sectorAt bytes 24, sectorAt bytes 26, sectorAt bytes 28]
  dTmin := wideFieldAt bytes 30
  dThys := wideFieldAt bytes 32
  lFloor := wideFieldAt bytes 34
  lTight := wideFieldAt bytes 36
  lRelax := wideFieldAt bytes 38
  kv := wideFieldAt bytes 40
  rMax := wideFieldAt bytes 42
  vWide := wideFieldAt bytes 44
  failPosition := wideFieldAt bytes 46
  softLo := wideFieldAt bytes 48
  softHi := wideFieldAt bytes 50
  gFloor := wideFieldAt bytes 52
  gFallback := wideFieldAt bytes 54
  qDef := wideFieldAt bytes 56
  dpReq := wideFieldAt bytes 58
  reportDelta := wideFieldAt bytes 60
  starveMargin := wideFieldAt bytes 62
  starveCount := wideFieldAt bytes 64
  hMin := wideFieldAt bytes 66
  hMax := wideFieldAt bytes 68
  hStart := wideFieldAt bytes 70
  hIsolated := wideFieldAt bytes 72
  hStep := wideFieldAt bytes 74
  kh := wideFieldAt bytes 76
  reserve := wideFieldAt bytes 78
  permissions := (List.range 10).map (fun k => byteAt bytes (80 + k))
  barred := (List.range 4).map (fun k => byteAt bytes (90 + k))
  alarmMask := maskAt bytes 94
  urgentMask := maskAt bytes 97
  changeMask := byteAt bytes 100
  functionCodes := ⟨byteAt bytes 101, byteAt bytes 102, byteAt bytes 103, byteAt bytes 104⟩
  activeLevels := byteAt bytes 105

/-- The signature of a descriptor (R182). -/
def signatureOk (bytes : List Byte) : Bool :=
  byteAt bytes 0 == 0x6B#8 && byteAt bytes 1 == 0x47#8 && byteAt bytes 2 == 0x24#8
    && byteAt bytes 3 == 0x0D#8

/-- The descriptor judged (R170): none when its signature, format version, station number or role code makes
it invalid, otherwise its fields before clamping. -/
def judgeDescriptor (bytes : List Byte) : Option Descriptor :=
  if signatureOk bytes && (fieldAt bytes 4 == 1) && decide (1 ≤ fieldAt bytes 5)
      && decide (fieldAt bytes 5 < 240) then
    (readRole (byteAt bytes 6)).map (rawDescriptor bytes)
  else none

/-- Clamp a sector range; its use is decided before clamping (R171). -/
def clampSector (r : SectorRange) : SectorRange where
  base := clampNat 1 239 r.base
  limit := clampNat 1 239 r.limit
  used := r.used

/-- Bring every tunable into its range, then make the two adjustments between fields (R171, R85, R107,
R123, R31, R47, R151). -/
def clampDescriptor (d : Descriptor) : Descriptor :=
  let stale := clampNat 2 60 d.staleTime
  let lost := clampNat 2 600 d.lostTime
  let hMin := clampNat 0 10000 d.hMin
  let hMax := clampNat 0 10000 d.hMax
  { d with
    ownClass := clampNat 0 3 d.ownClass
    bitRate := clampNat 0 3 d.bitRate
    staleTime := stale
    joinTime := clampNat 2 60 d.joinTime
    lostTime := if stale < lost then lost else stale + 1
    silenceTime := clampNat 2 120 d.silenceTime
    reportInterval := clampNat 1 30 d.reportInterval
    minSpacing := clampNat 2 50 d.minSpacing
    controlPeriod := clampNat 5 50 d.controlPeriod
    sampleTimeout := clampNat 2 100 d.sampleTimeout
    holdTime := clampNat 1 120 d.holdTime
    debounce := clampNat 0 25 d.debounce
    filterA := clampNat 1 16 d.filterA
    sectors := d.sectors.map clampSector
    dTmin := clampNat 0 2000 d.dTmin
    dThys := clampNat 0 500 d.dThys
    lFloor := clampNat 100 1000 d.lFloor
    lTight := clampNat 1 200 d.lTight
    lRelax := clampNat 1 200 d.lRelax
    kv := clampNat 1 255 d.kv
    rMax := clampNat 1 2000 d.rMax
    vWide := clampNat 5000 10000 d.vWide
    failPosition := clampNat 0 10000 d.failPosition
    softLo := clampNat 0 10000 d.softLo
    softHi := clampNat 0 10000 d.softHi
    gFloor := clampNat 0 20000 d.gFloor
    gFallback := clampNat 0 20000 d.gFallback
    qDef := clampNat 0 20000 d.qDef
    dpReq := clampNat 0 10000 d.dpReq
    reportDelta := clampNat 1 2000 d.reportDelta
    starveMargin := clampNat 0 2000 d.starveMargin
    starveCount := clampNat 1 30 d.starveCount
    hMin := hMin
    hMax := if hMax < hMin then hMin else hMax
    hStart := clampNat 0 10000 d.hStart
    hIsolated := clampNat 0 10000 d.hIsolated
    hStep := clampNat 1 500 d.hStep
    kh := clampNat 1 64 d.kh
    reserve := clampNat 0 500 d.reserve }

/-- The drive range that the straps cut (R172). -/
def driveRange (d : Descriptor) : DriveBand :=
  match d.role with
  | .transfer => ⟨0, 10000⟩
  | .plant => ⟨d.hMin, d.hMax⟩

/-- The part of a span that a band code takes off: code 0 takes nothing, code c from 1 to 7 the fraction
1 / 2^(7 - c), rounded down (R172). -/
def strapCut (code span : Nat) : Nat :=
  if code = 0 then 0 else span / 2 ^ (7 - code)

/-- The hardware band (R172). -/
def hardwareBand (r : StrapReading) (range : DriveBand) : DriveBand :=
  let p := strapCut r.code (range.hi - range.lo)
  match r.bandEnd with
  | .top => ⟨range.lo, range.hi - p⟩
  | .bottom => ⟨range.lo + p, range.hi⟩

/-- The effective band, and whether an empty intersection calls for DESCRIPTOR_CLAMPED (R172). -/
def effectiveBand (d : Descriptor) (hardware : DriveBand) : DriveBand × Bool :=
  match d.role with
  | .plant => (hardware, false)
  | .transfer =>
    if d.softLo ≤ d.softHi then
      let lo := max hardware.lo d.softLo
      let hi := min hardware.hi d.softHi
      if lo ≤ hi then (⟨lo, hi⟩, false) else (hardware, true)
    else (hardware, false)

/-- Bring the fail position, or H_start and H_isolated, into the band (R172). -/
def clampIntoBand (d : Descriptor) (b : DriveBand) : Descriptor :=
  match d.role with
  | .transfer => { d with failPosition := clampNat b.lo b.hi d.failPosition }
  | .plant =>
    { d with
      hStart := clampNat b.lo b.hi d.hStart
      hIsolated := clampNat b.lo b.hi d.hIsolated }

/-- Whether a function fits a role (R135). -/
def functionFits (role : Role) : InputFunction → Bool
  | .none => true
  | .localHand => decide (role = .transfer)
  | .isolationClosed => decide (role = .transfer)
  | .plantTrip => decide (role = .plant)
  | .maintLock => true

/-- The function in force for a function code (R135). -/
def functionInForce (role : Role) (code : Byte) : InputFunction :=
  match readInputFunction code with
  | some f => if functionFits role f then f else .none
  | none => .none

/-- Whether a function code is treated as NONE and so calls for DESCRIPTOR_CLAMPED (R135). -/
def functionReplaced (role : Role) (code : Byte) : Bool :=
  match readInputFunction code with
  | some f => !functionFits role f
  | none => true

/-- Membership of a station number by the sector ranges (R10). -/
def membershipOf (d : Descriptor) (number : Nat) : Membership :=
  let used := d.sectors.filter (fun r => r.used)
  if used.isEmpty || used.any (fun r => decide (r.base ≤ number) && decide (number ≤ r.limit))
  then .inSector else .outside

/-! ### Sample records (R124, R125, R181) -/

/-- The fields of the transfer set and of the plant set, in the record's order (R181). -/
def fieldSet : Role → List FieldName
  | .transfer => [.ts, .tr, .q, .dp, .vf, .qb]
  | .plant => [.ts, .tr, .q, .dp, .qavail]

/-- The upper end of a field's fixed range; the lower end is 0 (R125). -/
def FieldName.top : FieldName → Nat
  | .ts => 3000
  | .tr => 3000
  | .q => 20000
  | .dp => 10000
  | .vf => 10000
  | .qb => 20000
  | .qavail => 20000

/-- The role whose field set a record's code names (R181). -/
def recordRole (characters : List Byte) : Option Role := readRole (characters.getD 1 0#8)

/-- The reading of field number k of a record: its value when it is good, tagged GOOD and inside its fixed
range, and none when it is bad (R125). -/
def sampleReading (characters : List Byte) (k : Nat) (f : FieldName) : Option Nat :=
  let at0 := 2 + 3 * k
  let value := 256 * (characters.getD at0 0#8).toNat + (characters.getD (at0 + 1) 0#8).toNat
  if characters.getD (at0 + 2) 0#8 = 0#8 ∧ value ≤ FieldName.top f then some value else none

/-- The readings of the fields of a set, each with its field (R125). -/
def sampleReadings (characters : List Byte) : Nat → List FieldName → List (FieldName × Option Nat)
  | _, [] => []
  | k, f :: rest => (f, sampleReading characters k f) :: sampleReadings characters (k + 1) rest

/-! ### Report bodies (R9, R178) -/

/-- What a well-formed report says (R9, R17). -/
structure ReportBody where
  mode : PeerMode
  isolated : Bool
  word : ConditionWord
  part : RolePart
  deriving DecidableEq, Repr

/-- A mandatory quantity: none when it carries its absent code, else brought into its range (R9). -/
def mandatory (top : Nat) (w : HalfWord) : Option Nat := (readU16Opt w).map (min top)

/-- A quantity that may be absent, brought into its range (R9). -/
def optional (top : Nat) (w : HalfWord) : Option Nat := (readU16Opt w).map (min top)

/-- A signed margin that may be absent, brought into its range (R9). -/
def readMargin (w : HalfWord) : Option Int := (readS16Opt w).map (clampInt (-3000) 3000)

/-- A class: above 3 it is taken as 3 (R9); log 6 for 255. -/
def readClass (c : Byte) : Option Nat :=
  if c = 0xFF#8 && Config.classAllOnesAbsent then none else some (min 3 c.toNat)

/-- A critical station: one that is present but not from 1 to 239 is stored as absent (R9). -/
def readCritical (w : HalfWord) : Option Nat :=
  match readU16Opt w with
  | some n => if 1 ≤ n ∧ n ≤ 239 then some n else none
  | none => none

/-- Whether the L field makes a transfer report malformed (log 6). -/
def limiterMalformed (w : HalfWord) : Bool := w = 0xFFFF#16 && Config.limiterMandatory

/-- The transfer part of a report body (R7, R9, R178); none when the body is malformed. -/
def readTransferPart (f : Frame) : Option TransferPart := do
  let qr ← mandatory 20000 (Group.high (f.group 0))
  let grant ← mandatory 20000 (Group.low (f.group 0))
  let valve ← mandatory 10000 (Group.high (f.group 1))
  let cls ← readClass (Group.c3 (f.group 3))
  let outcome ← readShareOutcome (Group.c4 (f.group 3))
  let flags := Group.c1 (f.group 4)
  if limiterMalformed (Group.high (f.group 3)) then none
  else
    some
      { qr := qr
        cls := cls
        grant := grant
        valve := valve
        margin := readMargin (Group.high (f.group 2))
        wide := flags.getLsbD 0
        starved := flags.getLsbD 1
        localHand := flags.getLsbD 2
        shed := flags.getLsbD 3
        outcome := outcome }

/-- The plant part of a report body (R8, R9, R178); none when the body is malformed. -/
def readPlantPart (f : Frame) : Option PlantPart := do
  let offer ← mandatory 20000 (Group.high (f.group 0))
  let head ← mandatory 10000 (Group.low (f.group 0))
  some
    { offer := offer
      head := head
      flow := optional 20000 (Group.high (f.group 1))
      critical := readCritical (Group.high (f.group 3))
      criticalMargin := readMargin (Group.low (f.group 2)) }

/-- The condition word of a group (R177). -/
def readWord (g : Group) : ConditionWord := g.extractLsb' 0 22

/-- Read a STATION_REPORT; none when it is malformed (R9). -/
def readReport (f : Frame) : Option ReportBody := do
  let mode ← readPeerMode f.senderMode
  let role ← readRole f.senderRole
  if f.groupCount ≠ 5#8 then none
  else
    let flags := Group.c1 (f.group 4)
    match role with
    | .transfer =>
      let part ← readTransferPart f
      some ⟨mode, flags.getLsbD 4, readWord (f.group 4), .transfer part⟩
    | .plant =>
      let part ← readPlantPart f
      some ⟨mode, flags.getLsbD 0, readWord (f.group 4), .plant part⟩

/-! ### Commands (R162 to R164, R179) -/

/-- Who sends a command, as the permission sets name it (R162, R182). -/
inductive SenderRole where
  | transfer | plant | tool
  deriving DecidableEq, Repr

/-- The sender role of a command: TOOL for the numbers 240 to 254 whatever the header says, otherwise the
header's sender role, TRANSFER or PLANT (R162). -/
def senderRoleOf (f : Frame) : Option SenderRole :=
  if 240 ≤ f.source.toNat ∧ f.source.toNat ≤ 254 then some .tool
  else
    match readRole f.senderRole with
    | some .transfer => some .transfer
    | some .plant => some .plant
    | none => none

/-- The bit of a permission set that names a sender role (R182). -/
def SenderRole.bit : SenderRole → Nat
  | .transfer => 0
  | .plant => 1
  | .tool => 2

/-- The body group count of each kind of command (the table that opens spec/10). -/
def bodyGroupCount : Kind → Nat
  | .limitBlock => 2
  | .limitCancel => 0
  | .shed => 1
  | .clearConditions => 1
  | .hold => 1
  | .release => 0
  | .forget => 1
  | .restart => 0
  | .readView => 1
  | .readCounters => 0
  | .stationReport => 5
  | .alarm => 1
  | .reply => 0

/-- The block a LIMIT_BLOCK carries, its limit clamped to 20000; none when R164 refuses it with
BAD_VALUE. -/
def readBlock (f : Frame) : Option Block := do
  let mode ← readBlockMode (Group.c1 (f.group 1))
  let duration := (Group.low (f.group 0)).toNat
  if duration = 0 then none
  else some ⟨min 20000 (Group.high (f.group 0)).toNat, duration, mode⟩

/-- The threshold of a SHED, one above 3 becoming 3 (R164). -/
def shedThreshold (f : Frame) : Nat := min 3 (Group.c1 (f.group 0)).toNat

/-- The duration of a SHED, one above 3600 becoming 3600 (R164). -/
def shedDuration (f : Frame) : Nat := min 3600 (Group.low (f.group 0)).toNat

/-- The duration of a HOLD, one above 3600 becoming 3600 (R164). -/
def holdDuration (f : Frame) : Nat := min 3600 (Group.high (f.group 0)).toNat

/-- The mask of a CLEAR_CONDITIONS (R179). -/
def clearMask (f : Frame) : BitVec 24 := Group.tail24 (f.group 0)

/-- The station number of a FORGET or READ_VIEW (R179). -/
def namedNumber (f : Frame) : Nat := (Group.c1 (f.group 0)).toNat

end Sys2Proof.Machine
end

