-- ==== Sys2Proof/Machine/Flags.lean ====
section
/-! DEFINITION. What the blocks read of one another: the mode (R138), the configuration in force, the input
functions (R135), the field values (R126), the condition word (R143, R144, R177), and the READY and ALARM
outputs (R142, R147). -/

namespace Sys2Proof.Machine

/-! ### Mode and configuration -/

/-- The station receives, measures and controls: JOINING, RUNNING or HOLD. -/
def Mode.active : Mode → Bool
  | .joining => true
  | .running => true
  | .hold => true
  | .starting => false
  | .unconfigured => false

/-- The station transmits, reports and takes commands: RUNNING or HOLD. -/
def Mode.speaking : Mode → Bool
  | .running => true
  | .hold => true
  | .joining => false
  | .starting => false
  | .unconfigured => false

/-- JOINING, RUNNING or HOLD. -/
def State.active (s : State) : Bool := s.control.mode.active

/-- RUNNING or HOLD. -/
def State.speaking (s : State) : Bool := s.control.mode.speaking

/-- The loaded descriptor, or the blank record while none is loaded. -/
def State.config (s : State) : Descriptor := s.control.descriptor.getD .blank

/-- The drive band, or the blank one while none is derived. -/
def State.band (s : State) : DriveBand := s.control.driveBand.getD ⟨0, 0⟩

/-- The station has loaded a descriptor of the TRANSFER role. -/
def State.isTransfer (s : State) : Bool :=
  match s.control.descriptor with
  | some d => decide (d.role = .transfer)
  | none => false

/-- The station has loaded a descriptor of the PLANT role. -/
def State.isPlant (s : State) : Bool :=
  match s.control.descriptor with
  | some d => decide (d.role = .plant)
  | none => false

/-- Whether a timer runs. -/
def Timer.isRunning : Timer → Bool
  | .running _ => true
  | .stopped => false

/-- The sender mode of a frame the station sends: HOLD in HOLD, RUNNING otherwise (R32, R150, R165). -/
def State.senderMode (s : State) : PeerMode :=
  if s.control.mode = .hold then .hold else .running

/-! ### Measurements and inputs -/

/-- A field's value for its readers: present while GOOD or HELD (R87, R126). -/
def Field.present (f : Field) : Option Nat :=
  match f.state with
  | .good => f.value
  | .held => f.value
  | .absent => none

/-- The present value of a field. -/
def State.reading (s : State) (n : FieldName) : Option Nat := (s.measure.fields.get n).present

/-- An input function is active while at least one input assigned to it is ACTIVE (R135). -/
def MeasurementUnit.functionActive (m : MeasurementUnit) (f : InputFunction) : Bool :=
  (decide (m.functions.in0 = f) && m.inputs.in0.active)
    || (decide (m.functions.in1 = f) && m.inputs.in1.active)
    || (decide (m.functions.in2 = f) && m.inputs.in2.active)
    || (decide (m.functions.in3 = f) && m.inputs.in3.active)

/-- The active level of an input (R133, R182). -/
def activeLevel (d : Descriptor) (i : InputName) : Level :=
  if d.activeLevels.getLsbD (InputName.bit i) then .high else .low

/-- The raw state of an input: active when its raw level equals its active level (R133). -/
def rawActive (d : Descriptor) (i : InputName) (raw : Level) : Bool := decide (raw = activeLevel d i)

/-! ### The condition word -/

/-- The fourteen sticky latches (R143). -/
inductive Latch where
  | rxOverrun | damagedSeen | txAbandon | replyLost | tableFull | numberClash | sampleMissing
  | fieldAbsent | profileGap | inputChange | holdExpired | restarted | descriptorClamped | shedReceived
  deriving DecidableEq, Repr

/-- The bit of a latch in the condition word (R177). -/
def Latch.index : Latch → Nat
  | .rxOverrun => 0
  | .damagedSeen => 1
  | .txAbandon => 2
  | .replyLost => 3
  | .tableFull => 4
  | .numberClash => 5
  | .sampleMissing => 6
  | .fieldAbsent => 7
  | .profileGap => 8
  | .inputChange => 9
  | .holdExpired => 10
  | .restarted => 11
  | .descriptorClamped => 12
  | .shedReceived => 13

/-- Whether a latch is set. -/
def State.latched (s : State) (l : Latch) : Bool := s.condition.latches.getLsbD l.index

/-- Whether the urgent mask enables a latch (R148). -/
def State.urgent (s : State) (l : Latch) : Bool := s.config.urgentMask.getLsbD l.index

/-- The limit in force (R71). -/
def LimitUnit.limitInForce (u : LimitUnit) : Option Nat :=
  match u.active with
  | .none => none
  | .running b _ => some b.limit
  | .held b => some b.limit

/-- Whether the shed is IN_FORCE (R80). -/
def LimitUnit.shedInForce (u : LimitUnit) : Bool :=
  match u.shed with
  | .off => false
  | .inForce _ _ => true

/-- The shed cap (R81). -/
def State.shedCap (s : State) : Option Nat :=
  if s.limit.shedInForce then some s.config.gFloor else none

/-- CURTAILED: the grant is less than the request used (R62). -/
def AllocationRecord.curtailed (r : AllocationRecord) : Bool := decide (r.grant < r.requestUsed)

/-- The TRIP flag: PLANT_TRIP is active (R34). -/
def State.trip (s : State) : Bool := s.measure.functionActive .plantTrip

/-- Live condition FAILSAFE, false in a plant station and true from the reset on otherwise (R98, R144, R145). -/
def State.liveFailsafe (s : State) : Bool := !s.isPlant && s.valve.failsafe

/-- Live condition CURTAILED, false in a plant station (R62, R144). -/
def State.liveCurtailed (s : State) : Bool := !s.isPlant && s.share.record.curtailed

/-- Live condition NO_OFFER, false in a plant station and true from the reset on otherwise, STARTING included (R63, R144,
R145). -/
def State.liveNoOffer (s : State) : Bool :=
  !s.isPlant && decide (s.share.record.outcome = .noOffer)

/-- Live condition SHED (R80, R144). -/
def State.liveShed (s : State) : Bool := !s.isPlant && s.limit.shedInForce

/-- Live condition DT_LIMIT, false in a plant station (R89, R144). -/
def State.liveDtLimit (s : State) : Bool := !s.isPlant && decide (s.valve.limiter < 1000)

/-- Live condition LOCAL, false in a plant station (R98, R144). -/
def State.liveLocal (s : State) : Bool := !s.isPlant && s.valve.localHand

/-- Live condition HOLD (R144). -/
def State.liveHold (s : State) : Bool := decide (s.control.mode = .hold)

/-- The eight live conditions, bits 14 to 21 of the condition word (R144, R177). Before a descriptor gives the role they
read as in a transfer station (log 26). -/
def State.liveConditions (s : State) : BitVec 8 :=
  bit s.liveHold ++ bit s.liveLocal ++ bit s.liveDtLimit ++ bit s.liveShed ++ bit s.liveNoOffer
    ++ bit s.liveCurtailed ++ bit s.liveFailsafe ++ bit s.line.isolated

/-- The condition word: the latches and the live conditions together (R144, R177). -/
def State.conditionWord (s : State) : ConditionWord := s.liveConditions ++ s.condition.latches

/-! ### The output lines -/

/-- The READY output (R142, R168). -/
def State.readyLine (s : State) : Bool := s.control.mode.speaking

/-- The ALARM output (R147, R168). -/
def State.alarmLine (s : State) : Bool :=
  match s.control.mode with
  | .starting => false
  | .unconfigured => true
  | .joining => decide (s.conditionWord &&& s.config.alarmMask.extractLsb' 0 22 ≠ 0#22)
  | .running => decide (s.conditionWord &&& s.config.alarmMask.extractLsb' 0 22 ≠ 0#22)
  | .hold => decide (s.conditionWord &&& s.config.alarmMask.extractLsb' 0 22 ≠ 0#22)

/-! ### The Transmit Queue -/

/-- A REPORT entry. -/
def TxEntry.isReport : TxEntry → Bool
  | .report _ => true
  | .alarm _ => false
  | .reply _ => false

/-- An ALARM entry. -/
def TxEntry.isAlarm : TxEntry → Bool
  | .report _ => false
  | .alarm _ => true
  | .reply _ => false

/-- A REPLY entry. -/
def TxEntry.isReply : TxEntry → Bool
  | .report _ => false
  | .alarm _ => false
  | .reply _ => true

/-- The first attempt of a REPORT or ALARM entry has started: it has its sequence number (R36, R150). -/
def TxEntry.started : TxEntry → Bool
  | .report first => first.isSome
  | .alarm sequence => sequence.isSome
  | .reply _ => false

/-- A REPLY that answers an admitted RESTART (R162). -/
def TxEntry.marked : TxEntry → Bool
  | .report _ => false
  | .alarm _ => false
  | .reply r => r.restart

/-- Every entry of the Transmit Queue, the in-flight one first. -/
def LineUnit.txEntries (u : LineUnit) : List TxEntry := u.inFlight.toList ++ u.waiting

/-- How many entries the Transmit Queue holds, the in-flight one included (R157). -/
def LineUnit.txCount (u : LineUnit) : Nat := u.txEntries.length

/-- The queue holds a REPORT entry, in flight or not (R42). -/
def LineUnit.holdsReport (u : LineUnit) : Bool := u.txEntries.any TxEntry.isReport

/-- The queue holds a REPORT entry that has not had its first attempt start (R41). -/
def LineUnit.absorbsReport (u : LineUnit) : Bool :=
  u.txEntries.any (fun e => e.isReport && !e.started)

/-- The queue holds an ALARM entry, in flight or not (R148). -/
def LineUnit.holdsAlarm (u : LineUnit) : Bool := u.txEntries.any TxEntry.isAlarm

/-- The queue holds an ALARM entry that has not had its first attempt start (R148). -/
def LineUnit.absorbsAlarm (u : LineUnit) : Bool :=
  u.txEntries.any (fun e => e.isAlarm && !e.started)

/-- The queue accepts a REPORT: it holds none and fewer than 6 entries (R42). -/
def LineUnit.acceptsReport (u : LineUnit) : Bool :=
  !u.holdsReport && decide (u.txCount < Config.txCapacity)

end Sys2Proof.Machine
end

