-- ==== Sys2Proof/Machine/Ops.lean ====
section
/-! DEFINITION. The operations that several events share: timers, latches and the alarm (R148), the Transmit
Queue and its arbiter (R157, R158), queuing a report (R42), change notices (R11), the offer of a plant (R108),
the recognition of an input's change (R134), the reset (R168), and the end of an event. -/

namespace Sys2Proof.Machine

/-- A timer started or restarted for whole seconds. -/
def startSeconds (n : Nat) : Timer := .running (10 * n)

/-- A timer started or restarted for tenths of a second. -/
def startTenths (n : Nat) : Timer := .running n

/-- An event that steps to a state. -/
def done (s : State) : Host.Outcome State Fault Refusal := .next s

/-! ### Offers to the Transmit Queue (R157) -/

/-- An entry joins the queue. -/
def enqueue (e : TxEntry) (s : State) : State :=
  s.setLine { s.line with waiting := s.line.waiting ++ [e] }

/-- Set the bit of a latch. -/
def markLatch (l : Latch) (s : State) : State :=
  s.setCondition { s.condition with latches := s.condition.latches ||| (1#14 <<< l.index) }

/-- Set or clear report-due. -/
def setReportDue (due : Bool) (s : State) : State :=
  s.setReports { s.reports with reportDue := due }

/-- Set or clear alarm-due. -/
def setAlarmDue (due : Bool) (s : State) : State :=
  s.setCondition { s.condition with alarmDue := due }

/-- The Line Unit tells the Command Handler that an entry has left the queue; if it is a marked reply, the
RESTART takes effect in this event (R167). -/
def noteDeparture (e : TxEntry) (s : State) : State :=
  s.setCommand { s.command with restartDue := s.command.restartDue || e.marked }

/-- A reply is lost: REPLIES_LOST is incremented (R157). -/
def countReplyLost (s : State) : State :=
  s.setLine { s.line with repliesLost := countUp s.line.repliesLost }

/-- An entry takes the place of the waiting REPORT, which sets report-due again (R43, R157). -/
def displaceReport (others : List TxEntry) (e : TxEntry) (s : State) : State :=
  setReportDue true (s.setLine { s.line with waiting := others ++ [e] })

/-- Offer an ALARM (R157). In a full queue it displaces the waiting REPORT, or else the newest waiting
REPLY; REPLY_LOST latched by that displacement is carried by the ALARM that joins, so it is absorbed (R148).
-/
def offerAlarm (s : State) : State :=
  if s.line.txCount < Config.txCapacity then enqueue (.alarm none) s
  else
    match takeFirst TxEntry.isReport s.line.waiting with
    | some (_, others) => displaceReport others (.alarm none) s
    | none =>
      match takeLast TxEntry.isReply s.line.waiting with
      | some (e, others) =>
        noteDeparture e
          (markLatch .replyLost
            (countReplyLost (s.setLine { s.line with waiting := others ++ [.alarm none] })))
      | none => s

/-- Set a latch (R143). Going from clear to set, an urgent latch acts by the mode and the queue (R148). -/
def setLatch (l : Latch) (s : State) : State :=
  if s.latched l then s
  else if s.urgent l then
    match s.control.mode with
    | .joining => setAlarmDue true (markLatch l s)
    | .running | .hold =>
      if s.line.absorbsAlarm then markLatch l s
      else if s.line.holdsAlarm then setAlarmDue true (markLatch l s)
      else offerAlarm (markLatch l s)
    | .starting | .unconfigured => markLatch l s
  else markLatch l s

/-- Offer a REPLY (R157). In a full queue it displaces the waiting REPORT, or else it is dropped. -/
def offerReply (r : Reply) (s : State) : State :=
  if s.line.txCount < Config.txCapacity then enqueue (.reply r) s
  else
    match takeFirst TxEntry.isReport s.line.waiting with
    | some (_, others) => displaceReport others (.reply r) s
    | none => noteDeparture (.reply r) (setLatch .replyLost (countReplyLost s))

/-- Turn report-due into a queued report when the three conditions of R42 hold. -/
def queueReport (s : State) : State :=
  if s.reports.reportDue && !s.reports.spacingTimer.isRunning && s.line.acceptsReport then
    enqueue (.report none)
      (s.setReports
        { s.reports with
          reportDue := false
          intervalTimer := startSeconds s.config.reportInterval
          spacingTimer := startTenths s.config.minSpacing })
  else s

/-! ### The arbiter (R158) -/

/-- The waiting entry of highest priority, ALARM above REPLY above REPORT, the oldest REPLY first, and the
entries that remain (R158). -/
def nextEntry (waiting : List TxEntry) : Option (TxEntry × List TxEntry) :=
  match takeFirst TxEntry.isAlarm waiting with
  | some r => some r
  | none =>
    match takeFirst TxEntry.isReply waiting with
    | some r => some r
    | none => takeFirst TxEntry.isReport waiting

/-- Draw a holdoff below the window (R158, R159, log 3). -/
def drawHoldoff (u : LineUnit) : LineUnit :=
  { u with
    holdoff := some (Config.holdoffDraw u.draws % u.window)
    draws := u.draws + 1 }

/-- The arbiter chooses an entry when none is in flight and the queue holds at least one (R158). -/
def arbitrate (s : State) : State :=
  match s.line.inFlight with
  | some _ => s
  | none =>
    match nextEntry s.line.waiting with
    | some (e, others) =>
      s.setLine
        (drawHoldoff
          { s.line with
            inFlight := some e
            waiting := others
            attempts := 0
            window := Config.firstWindow })
    | none => s

/-! ### Change notices, the offer, the inputs -/

/-- A change notice or a publication reaches the Share Engine: in RUNNING and HOLD of a transfer station it
triggers one computation, otherwise it is dropped (R11, R49, R50). -/
def shareTrigger (s : State) : State :=
  if s.speaking && s.isTransfer then s.setShare { s.share with triggers := s.share.triggers + 1 } else s

/-- The offer and its basis (R108). -/
def offerOf (trip : Bool) (qavail : Option Nat) (reserve : Nat) : Nat × Option Nat :=
  if trip then (0, none)
  else
    match qavail with
    | none => (0, none)
    | some q => (q * (1000 - reserve) / 1000, some q)

/-- In a plant station the offer is recomputed (R109). -/
def recomputeOffer (s : State) : State :=
  if s.isPlant then
    let o := offerOf s.trip (s.reading .qavail) s.config.reserve
    s.setHead { s.head with offer := o.1, offerBasis := o.2 }
  else s

/-- Replace one input. -/
def setInput (i : InputName) (v : Input) (s : State) : State :=
  s.setMeasure { s.measure with inputs := s.measure.inputs.set i v }

/-- Recognise the change of an input (R134): its debounced state takes its raw state, its change latch is
set, INPUT_CHANGE is latched if the change mask enables the input, and a plant's offer is recomputed. -/
def recogniseChange (i : InputName) (s : State) : State :=
  let v := s.measure.inputs.get i
  let s1 := setInput i
    { v with
      active := rawActive s.config i v.raw
      changed := true
      debounceTimer := .stopped } s
  let s2 := if s.config.changeMask.getLsbD (InputName.bit i) then setLatch .inputChange s1 else s1
  recomputeOffer s2

/-- Deal with the raw level of a watched input having changed (R133). -/
def rawChanged (i : InputName) (s : State) : State :=
  let v := s.measure.inputs.get i
  if rawActive s.config i v.raw = v.active then
    setInput i { v with debounceTimer := .stopped } s
  else if s.config.debounce = 0 then recogniseChange i s
  else setInput i { v with debounceTimer := startTenths s.config.debounce } s

/-! ### Resets (R168) and the end of an event -/

/-- Every block takes its reset values, every queue is emptied and every timer stopped (R168). The pins'
levels stand as they are, and the counts of draws and of samplings made go on (log 3, log 19). -/
def resetBlocks (s : State) : State where
  pending := s.pending
  control :=
    { StationControl.atReset with
      strapPins := s.control.strapPins
      strapSamples := s.control.strapSamples }
  line := { LineUnit.atReset with draws := s.line.draws }
  peers := .atReset
  reports := .atReset
  share := .atReset
  limit := .atReset
  valve := .atReset
  head := .atReset
  measure := .atReset (s.measure.inputs.mapEach (fun v => v.raw))
  command := .atReset
  condition := .atReset
  driveLane := []

/-- The start of the descriptor read on the memory lane: the memory is selected, and the read instruction and the address 0
are sent, most significant character first (R169). -/
def readRequest : List MemorySignal := [.select, .send 0x03#8, .send 0x00#8, .send 0x00#8]

/-- The reset that a RESTART brings: STARTING is entered at once, with the restart cause set, the straps sampled and the
descriptor read begun (R167, R168, R169). The pins' levels at that sampling are a free value (log 19). -/
def restartReset (s : State) : State :=
  let s' := resetBlocks s
  let pins := strapPinsOf (Config.restartStraps s.control.strapSamples)
  s'.setControl
    { s'.control with
      pinAsserted := false
      restartCause := true
      strapPins := pins
      strapSamples := s.control.strapSamples + 1
      strapReading := readStraps pins
      memoryLane := readRequest }

/-- The end of an event: the arbiter chooses if it has to (R158), and if a marked reply has left the
Transmit Queue in the event, the RESTART takes effect in it (R167). -/
def settle (s : State) : State :=
  if s.command.restartDue then restartReset s else arbitrate s

end Sys2Proof.Machine
end

