-- ==== Sys2Proof/Machine/Limits.lean ====
section
/-! DEFINITION. The Limit Unit (spec/04): the arrival of a block (R72), the block and shed timers (R74, R75,
R80), LIMIT_CANCEL (R77) and SHED (R79) at the unit, and the two timer events. -/

namespace Sys2Proof.Machine

/-- Make a block the active one, in RUNNING with its full duration; the block timer is started (R72,
R74). -/
def LimitUnit.activate (u : LimitUnit) (b : Block) : LimitUnit :=
  { u with
    active := .running b b.duration
    blockTimer := startTenths Config.oneSecond }

/-- An admitted LIMIT_BLOCK by the state of the active block (R72). -/
def LimitUnit.arrive (u : LimitUnit) (b : Block) : LimitUnit :=
  match u.active with
  | .none => u.activate b
  | .held _ => u.activate b
  | .running _ _ => { u with pendingBlock := some b }

/-- An admitted LIMIT_CANCEL (R77). -/
def LimitUnit.cancel (u : LimitUnit) : LimitUnit :=
  { u with
    active := .none
    pendingBlock := none
    blockTimer := .stopped }

/-- End the shed (R79, R80). -/
def LimitUnit.endShed (u : LimitUnit) : LimitUnit :=
  { u with
    shed := .off
    shedTimer := .stopped }

/-- Put a shed in force (R79). -/
def LimitUnit.startShed (u : LimitUnit) (threshold duration : Nat) : LimitUnit :=
  { u with
    shed := .inForce threshold duration
    shedTimer := startTenths Config.oneSecond }

/-- The active expiry at the unit (R75): the pending block is promoted, or the mode of the ending block
acts. -/
def LimitUnit.activeExpiry (u : LimitUnit) (b : Block) : LimitUnit :=
  match u.pendingBlock with
  | some next => { u.activate next with pendingBlock := none }
  | none =>
    match b.mode with
    | .repeating => u.activate b
    | .single =>
      { u with
        active := .none
        blockTimer := .stopped }
    | .chain =>
      { u with
        active := .held b
        blockTimer := .stopped }

/-- Whether an active expiry latches PROFILE_GAP: a CHAIN block ends with no successor (R75, R76). -/
def LimitUnit.gapAt (u : LimitUnit) (b : Block) : Bool := u.pendingBlock.isNone && decide (b.mode = .chain)

/-- BLOCK_TIMER_EXPIRY (R74, R75). -/
def blockTimerExpiry (s : State) : State :=
  if s.limit.blockTimer.isRunning then
    match s.limit.active with
    | .running b remaining =>
      if 1 < remaining then
        s.setLimit { s.limit with active := .running b (remaining - 1) }
      else
        let s' := s.setLimit (s.limit.activeExpiry b)
        if s.limit.gapAt b then setLatch .profileGap s' else s'
    | .none => s
    | .held _ => s
  else s

/-- SHED_TIMER_EXPIRY (R80). -/
def shedTimerExpiry (s : State) : State :=
  if s.limit.shedTimer.isRunning then
    match s.limit.shed with
    | .inForce threshold remaining =>
      if 1 < remaining then
        s.setLimit { s.limit with shed := .inForce threshold (remaining - 1) }
      else s.setLimit s.limit.endShed
    | .off => s
  else s

/-- An admitted SHED with its clamped threshold and duration (R79). -/
def takeShed (threshold duration : Nat) (s : State) : State :=
  if duration = 0 then s.setLimit s.limit.endShed
  else if threshold ≤ s.config.ownClass then
    setLatch .shedReceived (s.setLimit (s.limit.startShed threshold duration))
  else s.setLimit s.limit.endShed

/-- BLOCK_TIMER_EXPIRY (R74). -/
def execBlockTimerExpiry (s : State) : Host.Outcome State Fault Refusal :=
  done (settle (blockTimerExpiry s))

/-- SHED_TIMER_EXPIRY (R80). -/
def execShedTimerExpiry (s : State) : Host.Outcome State Fault Refusal := done (settle (shedTimerExpiry s))

end Sys2Proof.Machine
end

