-- ==== Sys2Proof/Machine/Modes.lean ====
section
/-! DEFINITION. The mode after start-up (spec/08): entry to RUNNING (R139, R45, R149), HOLD and RELEASE at
Station Control (R140, R141), clearing the latches (R146), and the join and hold timers. -/

namespace Sys2Proof.Machine

/-- The ALARM entry offered at the entry to RUNNING if alarm-due is set (R149). -/
def offerDueAlarm (s : State) : State :=
  if s.condition.alarmDue then offerAlarm (setAlarmDue false s) else s

/-- JOIN_TIMER_EXPIRY (R139): the mode becomes RUNNING, report-due is set and the interval timer started
(R45), and an ALARM is offered if alarm-due is set; the order of the two offers is the operand. -/
def joinTimerExpiry (order : OfferOrder) (s : State) : State :=
  if s.control.joinTimer.isRunning then
    let s1 := s.setControl
      { s.control with
        mode := .running
        joinTimer := .stopped }
    let s2 := s1.setReports
      { s1.reports with
        reportDue := true
        intervalTimer := startSeconds s1.config.reportInterval }
    match order with
    | .alarmFirst => queueReport (arbitrate (offerDueAlarm s2))
    | .otherFirst => offerDueAlarm (arbitrate (queueReport s2))
  else s

/-- An admitted HOLD (R140): HOLD is entered, or the hold timer is re-armed. -/
def enterHold (duration : Nat) (s : State) : State :=
  s.setControl
    { s.control with
      mode := .hold
      holdTimer := startSeconds duration }

/-- An admitted RELEASE (R141): a hold ends; in RUNNING it has no effect. -/
def releaseHold (s : State) : State :=
  if s.control.mode = .hold then
    s.setControl
      { s.control with
        mode := .running
        holdTimer := .stopped }
  else s

/-- HOLD_TIMER_EXPIRY (R141): the mode becomes RUNNING and HOLD_EXPIRED is latched. -/
def holdTimerExpiry (s : State) : State :=
  if s.control.holdTimer.isRunning then
    setLatch .holdExpired
      (s.setControl
        { s.control with
          mode := .running
          holdTimer := .stopped })
  else s

/-- Clear the change latch of every input (R136). -/
def clearChangeLatches (s : State) : State :=
  s.setMeasure
    { s.measure with inputs := s.measure.inputs.mapEach (fun v => { v with changed := false }) }

/-- An admitted CLEAR_CONDITIONS (R146): the latches its mask includes are cleared, and the change latches of
the inputs with INPUT_CHANGE. -/
def clearConditions (mask : BitVec 24) (s : State) : State :=
  let s1 := s.setCondition
    { s.condition with latches := s.condition.latches &&& ~~~ (mask.extractLsb' 0 14) }
  if mask.getLsbD (Latch.index .inputChange) then clearChangeLatches s1 else s1

/-- JOIN_TIMER_EXPIRY (R139). -/
def execJoinTimerExpiry (order : OfferOrder) (s : State) : Host.Outcome State Fault Refusal :=
  done (settle (joinTimerExpiry order s))

/-- HOLD_TIMER_EXPIRY (R141). -/
def execHoldTimerExpiry (s : State) : Host.Outcome State Fault Refusal := done (settle (holdTimerExpiry s))

end Sys2Proof.Machine
end

