-- ==== Sys2Proof/Machine/Share.lean ====
section
/-! DEFINITION. The Share Engine (spec/03): the five stages of a computation (R54 to R61) and
SHARE_COMPUTATION (R49, R62). -/

namespace Sys2Proof.Machine

/-! ### Counted entries (R11, R51) -/

/-- An entry is counted while it is IN_SECTOR and FRESH or STALE (R11). -/
def PeerEntry.counted (e : PeerEntry) : Bool :=
  decide (e.membership = .inSector) && decide (e.freshness ≠ .lost)

/-- A counted PLANT entry that is FRESH (R54). -/
def PeerEntry.freshPlant (e : PeerEntry) : Bool :=
  match e.part with
  | .plant _ => e.counted && decide (e.freshness = .fresh)
  | .transfer _ => false

/-- A counted PLANT entry that is STALE (R54). -/
def PeerEntry.stalePlant (e : PeerEntry) : Bool :=
  match e.part with
  | .plant _ => e.counted && decide (e.freshness = .stale)
  | .transfer _ => false

/-- A counted TRANSFER entry (R54). -/
def PeerEntry.countedTransfer (e : PeerEntry) : Bool :=
  match e.part with
  | .transfer _ => e.counted
  | .plant _ => false

/-- The counted offer of an entry: in full while FRESH, halved while STALE, nothing otherwise (R54). -/
def PeerEntry.countedOffer (e : PeerEntry) : Nat :=
  match e.part with
  | .plant p =>
    if e.counted then (if e.freshness = .stale then p.offer / 2 else p.offer) else 0
  | .transfer _ => 0

/-- The request an entry adds to the sum of class k (R57). -/
def PeerEntry.requestIn (k : Nat) (e : PeerEntry) : Nat :=
  match e.part with
  | .transfer t => if e.counted ∧ t.cls = k then t.qr else 0
  | .plant _ => 0

/-- Stage 1: the capacity C (R54). -/
def capacityOf (entries : List PeerEntry) : Nat := (entries.map PeerEntry.countedOffer).sum

/-- Stage 3: the sum of class k, the own request included when k is the own class (R57). -/
def classSum (entries : List PeerEntry) (ownClass qr k : Nat) : Nat :=
  (entries.map (PeerEntry.requestIn k)).sum + (if k = ownClass then qr else 0)

/-! ### Stages 4 and 5 -/

/-- Stage 4: the remainder after a class with sum S has found the remainder r (R58). -/
def remainderAfter (r sum : Nat) : Nat := if sum ≤ r then r - sum else 0

/-- Stage 4: the remainder on reaching class k (R58). -/
def remainderAt (capacity : Nat) (sums : Nat → Nat) : Nat → Nat
  | 0 => capacity
  | k + 1 => remainderAfter (remainderAt capacity sums k) (sums k)

/-- Stage 4: what a member with a given request receives of a class with sum S that found remainder r (R58,
R59). -/
def memberShare (request r sum : Nat) : Nat := if sum ≤ r then request else request * r / sum

/-- Stage 4: the class outcome of the own station (R60). -/
def classOutcome (qr r sum : Nat) : ShareOutcome :=
  if qr = 0 then .full
  else if sum ≤ r then .full
  else if 0 < r then .prorated
  else .cut

/-- Stage 4: the own share (R60). -/
def ownShareOf (qr r sum : Nat) : Nat := if qr = 0 then 0 else memberShare qr r sum

/-- What a computation reads (R51). -/
structure ShareInputs where
  qr : Nat
  ownClass : Nat
  isolated : Bool
  gFloor : Nat
  gFallback : Nat
  entries : List PeerEntry
  deriving DecidableEq, Repr

/-- The record of a computation that Stage 2 ends (R48, R55, R56). -/
def fallbackRecord (i : ShareInputs) (outcome : ShareOutcome) : AllocationRecord where
  requestUsed := i.qr
  capacity := capacityOf i.entries
  freshPlants := i.entries.countP PeerEntry.freshPlant
  stalePlants := i.entries.countP PeerEntry.stalePlant
  transferPeers := i.entries.countP PeerEntry.countedTransfer
  s0 := none
  s1 := none
  s2 := none
  s3 := none
  remainder := none
  ownShare := none
  floorApplied := false
  grant := min i.qr i.gFallback
  outcome := outcome

/-- The record of a computation that reaches Stage 5 (R57 to R61). -/
def sharedRecord (i : ShareInputs) : AllocationRecord :=
  let sums := classSum i.entries i.ownClass i.qr
  let r := remainderAt (capacityOf i.entries) sums i.ownClass
  let share := ownShareOf i.qr r (sums i.ownClass)
  let floorTerm := min i.qr i.gFloor
  { requestUsed := i.qr
    capacity := capacityOf i.entries
    freshPlants := i.entries.countP PeerEntry.freshPlant
    stalePlants := i.entries.countP PeerEntry.stalePlant
    transferPeers := i.entries.countP PeerEntry.countedTransfer
    s0 := some (sums 0)
    s1 := some (sums 1)
    s2 := some (sums 2)
    s3 := some (sums 3)
    remainder := some r
    ownShare := some share
    floorApplied := decide (share < floorTerm)
    grant := max share floorTerm
    outcome := classOutcome i.qr r (sums i.ownClass) }

/-- A computation of the Share Engine (R54 to R61): the fallbacks are checked in order, ISOLATED first. -/
def computeShare (i : ShareInputs) : AllocationRecord :=
  if i.isolated then fallbackRecord i .isolated
  else if i.entries.countP PeerEntry.freshPlant + i.entries.countP PeerEntry.stalePlant = 0 then
    fallbackRecord i .noOffer
  else sharedRecord i

/-- The inputs of a computation as they stand (R51). -/
def State.shareInputs (s : State) : ShareInputs where
  qr := s.valve.qr
  ownClass := s.config.ownClass
  isolated := s.line.isolated
  gFloor := s.config.gFloor
  gFallback := s.config.gFallback
  entries := s.peers.entries

/-- A computation replaces the Allocation Record, and with it the published grant (R62). -/
def takeComputation (s : State) : State :=
  s.setShare { s.share with record := computeShare s.shareInputs }

/-- SHARE_COMPUTATION (R49): in RUNNING and HOLD of a transfer station, a trigger that is still to be
answered gives one computation. -/
def shareComputation (s : State) : State :=
  if s.speaking && s.isTransfer && decide (0 < s.share.triggers) then
    takeComputation (s.setShare { s.share with triggers := s.share.triggers - 1 })
  else s

/-- SHARE_COMPUTATION (R49, R62). -/
def execShareComputation (s : State) : Host.Outcome State Fault Refusal := done (settle (shareComputation s))

end Sys2Proof.Machine
end

