-- ==== Sys2Proof/Machine/Peers.lean ====
section
/-! DEFINITION. The Peer Table (spec/01): entries and their order (R5), the acceptance sequence (R12 to R17),
eviction and refusal (R23, R24), ALARM frames (R22), ageing (R18, R19), and the events TAKE_STATION_REPORT,
TAKE_ALARM_FRAME and AGE_TIMER_EXPIRY. -/

namespace Sys2Proof.Machine

/-! ### The front of the Receive Queue (R156) -/

/-- The frame at the front, if it satisfies p and the station takes frames; and the state without it. -/
def takeFront (p : Frame → Bool) (s : State) : Option (Frame × State) :=
  match s.line.rxQueue with
  | [] => none
  | f :: rest =>
    if s.active && p f then some (f, s.setLine { s.line with rxQueue := rest }) else none

/-! ### Entries and their order (R5) -/

/-- The entry of a station number. -/
def findEntry (number : Nat) (entries : List PeerEntry) : Option PeerEntry :=
  entries.find? (fun e => e.number == number)

/-- Put an entry in its place in ascending order of station number (R5). -/
def insertEntry (e : PeerEntry) : List PeerEntry → List PeerEntry
  | [] => [e]
  | x :: rest => if e.number < x.number then e :: x :: rest else x :: insertEntry e rest

/-- Remove the entry of a station number; the others keep their order (R5). -/
def removeEntry (number : Nat) (entries : List PeerEntry) : List PeerEntry :=
  entries.filter (fun e => e.number != number)

/-- Replace the entry of the same station number. -/
def replaceEntry (e : PeerEntry) (entries : List PeerEntry) : List PeerEntry :=
  entries.map (fun x => if x.number = e.number then e else x)

/-- Of the entries that satisfy p, the one of greatest age, ties going to the lowest number (R23). -/
def oldest (p : PeerEntry → Bool) : List PeerEntry → Option PeerEntry
  | [] => none
  | e :: rest =>
    match oldest p rest with
    | none => if p e then some e else none
    | some b => if p e ∧ b.age ≤ e.age then some e else some b

/-- The victim of an eviction: the oldest LOST entry, or else the oldest OUTSIDE one (R23). -/
def victim (entries : List PeerEntry) : Option PeerEntry :=
  match oldest (fun e => decide (e.freshness = .lost)) entries with
  | some e => some e
  | none => oldest (fun e => decide (e.membership = .outside)) entries

/-- Replace the entries of the table. -/
def setEntries (entries : List PeerEntry) (s : State) : State :=
  s.setPeers { s.peers with entries := entries }

/-! ### Acceptance (R14 to R17) -/

/-- The role of a part. -/
def RolePart.role : RolePart → Role
  | .transfer _ => .transfer
  | .plant _ => .plant

/-- An entry after the acceptance of a report (R17), given the accepted-report count it holds before. -/
def acceptedEntry (number : Nat) (membership : Membership) (count : Nat) (f : Frame) (b : ReportBody) :
    PeerEntry where
  number := number
  membership := membership
  freshness := .fresh
  age := 0
  ageTimer := startTenths Config.oneSecond
  lastSequence := f.sequence
  acceptedCount := countUp count
  peerMode := b.mode
  isolated := b.isolated
  word := b.word
  part := b.part

/-- A change notice, if the entry is IN_SECTOR (R11, R17). -/
def noticeIf (inSector : Bool) (s : State) : State := if inSector then shareTrigger s else s

/-- Accept a report into an entry that the table holds (R15, R16, R17). -/
def acceptInto (e : PeerEntry) (count : Nat) (f : Frame) (b : ReportBody) (s : State) : State :=
  noticeIf (decide (e.membership = .inSector))
    (setEntries (replaceEntry (acceptedEntry e.number e.membership count f b) s.peers.entries) s)

/-- Create an entry among the given ones and accept the report into it (R14). -/
def createIn (entries : List PeerEntry) (number : Nat) (f : Frame) (b : ReportBody) (s : State) : State :=
  let membership := membershipOf s.config number
  noticeIf (decide (membership = .inSector))
    (setEntries (insertEntry (acceptedEntry number membership 0 f b) entries) s)

/-- A report discarded as a duplicate (R16). -/
def countDuplicate (s : State) : State :=
  s.setPeers { s.peers with duplicates := countUp s.peers.duplicates }

/-- A report discarded as out of order (R16). -/
def countOutOfOrder (s : State) : State :=
  s.setPeers { s.peers with outOfOrder := countUp s.peers.outOfOrder }

/-- A report refused for want of a victim (R24). -/
def refuseReport (s : State) : State :=
  setLatch .tableFull (s.setPeers { s.peers with tableRefusals := countUp s.peers.tableRefusals })

/-- Steps 4 to 7 of the acceptance sequence, for a well-formed report (R14 to R16, R23, R24). -/
def placeReport (number : Nat) (f : Frame) (b : ReportBody) (s : State) : State :=
  match findEntry number s.peers.entries with
  | some e =>
    if RolePart.role e.part ≠ RolePart.role b.part then acceptInto e 0 f b s
    else if e.freshness = .lost ∨ f.start = true then acceptInto e e.acceptedCount f b s
    else
      let d := (f.sequence - e.lastSequence).toNat
      if d = 0 then countDuplicate s
      else if d ≤ 127 then acceptInto e e.acceptedCount f b s
      else countOutOfOrder s
  | none =>
    if s.peers.entries.length < Config.peerCapacity then createIn s.peers.entries number f b s
    else
      match victim s.peers.entries with
      | some v => createIn (removeEntry v.number s.peers.entries) number f b s
      | none => refuseReport s

/-- The acceptance sequence, in its fixed order (R12 to R17). -/
def takeReport (f : Frame) (s : State) : State :=
  let number := f.source.toNat
  if number = s.config.number then setLatch .numberClash s
  else if number = 0 ∨ 240 ≤ number then s
  else
    match readReport f with
    | some b => placeReport number f b s
    | none => s

/-- TAKE_STATION_REPORT: the frame at the front, if it is a STATION_REPORT, is taken (R156). -/
def takeStationReport (s : State) : State :=
  match takeFront (fun f => f.kind == Kind.stationReport.code) s with
  | some (f, s') => takeReport f s'
  | none => s

/-- TAKE_STATION_REPORT (R17). -/
def execTakeStationReport (s : State) : Host.Outcome State Fault Refusal :=
  done (settle (takeStationReport s))

/-! ### ALARM frames (R22) -/

/-- Replace the condition word of an entry and nothing else (R22). -/
def setWordOf (number : Nat) (w : ConditionWord) (entries : List PeerEntry) : List PeerEntry :=
  entries.map (fun e => if e.number = number then { e with word := w } else e)

/-- An ALARM frame by its source and the entries held (R22). -/
def takeAlarm (f : Frame) (s : State) : State :=
  let number := f.source.toNat
  if number = s.config.number then setLatch .numberClash s
  else if number = 0 ∨ 240 ≤ number ∨ f.groupCount ≠ 1#8 then s
  else setEntries (setWordOf number (readWord (f.group 0)) s.peers.entries) s

/-- TAKE_ALARM_FRAME: the frame at the front, if it is an ALARM frame, is taken (R22, R156). -/
def takeAlarmFrame (s : State) : State :=
  match takeFront (fun f => f.kind == Kind.alarm.code) s with
  | some (f, s') => takeAlarm f s'
  | none => s

/-- TAKE_ALARM_FRAME (R22). -/
def execTakeAlarmFrame (s : State) : Host.Outcome State Fault Refusal := done (settle (takeAlarmFrame s))

/-! ### Ageing (R18, R19) -/

/-- The freshness of an entry at the expiry that brings its age to a value (R19). -/
def freshnessAt (d : Descriptor) (age : Nat) (f : Freshness) : Freshness :=
  match f with
  | .fresh => if age = d.staleTime then .stale else .fresh
  | .stale => if age = d.lostTime then .lost else .stale
  | .lost => .lost

/-- An entry after an expiry of its age timer (R18, R19): the timer stops when the age reaches 65535. -/
def agedEntry (d : Descriptor) (e : PeerEntry) : PeerEntry :=
  { e with
    age := e.age + 1
    ageTimer := if e.age + 1 < 65535 then startTenths Config.oneSecond else .stopped
    freshness := freshnessAt d (e.age + 1) e.freshness }

/-- AGE_TIMER_EXPIRY of one entry (R18, R19): a stale or lost expiry of an IN_SECTOR entry gives a change
notice. -/
def ageTimerExpiry (number : Nat) (s : State) : State :=
  match findEntry number s.peers.entries with
  | some e =>
    if s.active && e.ageTimer.isRunning then
      let e' := agedEntry s.config e
      noticeIf (decide (e.membership = .inSector) && decide (e'.freshness ≠ e.freshness))
        (setEntries (replaceEntry e' s.peers.entries) s)
    else s
  | none => s

/-- AGE_TIMER_EXPIRY (R18). -/
def execAgeTimerExpiry (number : Nat) (s : State) : Host.Outcome State Fault Refusal :=
  done (settle (ageTimerExpiry number s))

/-! ### FORGET (R26) -/

/-- An admitted FORGET removes the entry; a counted entry gives a change notice (R26). -/
def forgetEntry (number : Nat) (s : State) : State :=
  match findEntry number s.peers.entries with
  | some e => noticeIf e.counted (setEntries (removeEntry number s.peers.entries) s)
  | none => s

end Sys2Proof.Machine
end

