-- ==== Sys2Proof/Machine/Reports.lean ====
section
/-! DEFINITION. The Report Scheduler (spec/02): the contents of a report (R33, R34, R178), its capture and
numbering (R35 to R38), the change trigger (R40), and the two timers (R39, R42). -/

namespace Sys2Proof.Machine

/-! ### What a report carries -/

/-- The body of a transfer station's report (R33, R178). -/
def transferBody (s : State) : List Group :=
  [ pairGroup (u16 s.valve.qr) (u16 s.share.record.grant),
    pairGroup (u16 s.valve.command) (u16Opt (s.reading .q)),
    pairGroup (s16Opt s.valve.margin) (s16Opt s.valve.lastDt),
    u16 s.valve.limiter ++ u8 s.config.ownClass ++ ShareOutcome.code s.share.record.outcome,
    wordGroup
      (0#3 ++ bit s.line.isolated ++ bit s.limit.shedInForce ++ bit s.valve.localHand
        ++ bit s.valve.starved ++ bit s.valve.wide)
      s.conditionWord ]

/-- The body of a plant station's report (R34, R178). -/
def plantBody (s : State) : List Group :=
  [ pairGroup (u16 s.head.offer) (u16 s.head.setpoint),
    pairGroup (u16Opt (s.reading .q)) (u16Opt (s.reading .ts)),
    pairGroup (u16Opt (s.reading .tr)) (s16Opt s.head.criticalMargin),
    pairGroup (u16Opt s.head.critical) 0#16,
    wordGroup (0#6 ++ bit s.trip ++ bit s.line.isolated) s.conditionWord ]

/-- The body of the own report, by the own role (R33, R34). -/
def reportBody (s : State) : List Group :=
  match s.config.role with
  | .transfer => transferBody s
  | .plant => plantBody s

/-- The frame of a report (R32). -/
def reportFrame (sequence : Byte) (start : Bool) (s : State) : Frame where
  destination := 255#8
  source := u8 s.config.number
  kind := Kind.stationReport.code
  sequence := sequence
  groupCount := 5#8
  flags := 0#7 ++ bit start
  senderRole := Role.code s.config.role
  senderMode := s.senderMode.code
  body := reportBody s

/-- The values that the last-sent snapshot holds, as they stand (R38). -/
def presentSnapshot (s : State) : Snapshot :=
  match s.config.role with
  | .transfer =>
    .transfer s.valve.qr s.valve.wide s.valve.starved s.valve.localHand s.limit.shedInForce
      s.line.isolated s.share.record.outcome s.conditionWord
  | .plant => .plant s.head.offer s.line.isolated s.trip s.conditionWord

/-- The first attempt start of a report: it takes the own sequence number and its START flag, and the
snapshot is replaced (R36, R37, R38). -/
def numberReport (s : State) : State :=
  s.setReports
    { s.reports with
      sequence := s.reports.sequence + 1#8
      startCountdown := s.reports.startCountdown - 1
      snapshot := some (presentSnapshot s) }

/-! ### The change trigger (R40, R41) -/

/-- Whether the present values differ from the snapshot in a way that calls for a report (R40). -/
def differs (reportDelta : Nat) (old present : Snapshot) : Bool :=
  match old, present with
  | .transfer qr wide starved localHand shed isolated outcome word,
    .transfer qr' wide' starved' localHand' shed' isolated' outcome' word' =>
    decide (reportDelta ≤ distance qr qr')
      || (wide != wide') || (starved != starved') || (localHand != localHand') || (shed != shed')
      || (isolated != isolated') || decide (outcome ≠ outcome') || decide (word ≠ word')
  | .plant offer isolated trip word, .plant offer' isolated' trip' word' =>
    decide (reportDelta ≤ distance offer offer')
      || (isolated != isolated') || (trip != trip') || decide (word ≠ word')
  | .transfer .., .plant .. => true
  | .plant .., .transfer .. => true

/-- The change trigger finds a difference against the snapshot; without a snapshot it is not evaluated
(R40). -/
def changeSeen (s : State) : Bool :=
  match s.reports.snapshot with
  | some old => differs s.config.reportDelta old (presentSnapshot s)
  | none => false

/-- A control-period end: in RUNNING and HOLD a change sets report-due, unless a waiting REPORT absorbs it,
and the report is queued if it can be (R40, R41, R42). -/
def changeTrigger (s : State) : State :=
  if s.speaking && changeSeen s && !s.line.absorbsReport then queueReport (setReportDue true s) else s

/-! ### The timers -/

/-- Stop or start the report interval timer. -/
def setIntervalTimer (t : Timer) (s : State) : State :=
  s.setReports { s.reports with intervalTimer := t }

/-- REPORT_INTERVAL_EXPIRY (R39, R41): report-due is set, unless a waiting REPORT absorbs the expiry, which
restarts the timer. -/
def reportIntervalExpiry (s : State) : State :=
  if s.reports.intervalTimer.isRunning then
    if s.line.absorbsReport then setIntervalTimer (startSeconds s.config.reportInterval) s
    else queueReport (setReportDue true (setIntervalTimer .stopped s))
  else s

/-- SPACING_TIMER_EXPIRY (R42): the timer stops, and a pending report-due is turned into a report. -/
def spacingTimerExpiry (s : State) : State :=
  if s.reports.spacingTimer.isRunning then
    queueReport (s.setReports { s.reports with spacingTimer := .stopped })
  else s

/-- REPORT_INTERVAL_EXPIRY (R39). -/
def execReportIntervalExpiry (s : State) : Host.Outcome State Fault Refusal :=
  done (settle (reportIntervalExpiry s))

/-- SPACING_TIMER_EXPIRY (R42). -/
def execSpacingTimerExpiry (s : State) : Host.Outcome State Fault Refusal :=
  done (settle (spacingTimerExpiry s))

end Sys2Proof.Machine
end

