-- ==== Sys2Proof/Machine/Commands.lean ====
section
/-! DEFINITION. The Command Handler (spec/10): taking a command (R162), the admission checks (R163, R164),
the replies and their data (R165, R166, R180), RESTART (R167), and the ten command events. -/

namespace Sys2Proof.Machine

/-! ### Admission (R163, R164) -/

/-- The first admission check: body group count and sender role (R163). -/
def malformedCommand (kind : Kind) (f : Frame) : Bool :=
  decide (f.groupCount.toNat ≠ bodyGroupCount kind)
    || (decide (1 ≤ f.source.toNat) && decide (f.source.toNat ≤ 239) && (readRole f.senderRole).isNone)

/-- The second admission check: the barred list (R163). -/
def barredCommand (d : Descriptor) (kind : Kind) : Bool := d.barred.any (fun slot => slot == kind.code)

/-- The kinds that MAINT_LOCK refuses (R163). -/
def lockedKind : Kind → Bool
  | .limitBlock => true
  | .limitCancel => true
  | .hold => true
  | .forget => true
  | .restart => true
  | .shed => false
  | .clearConditions => false
  | .release => false
  | .readView => false
  | .readCounters => false
  | .stationReport => false
  | .alarm => false
  | .reply => false

/-- The two reading kinds, which every sender role may send (R163). -/
def readingKind : Kind → Bool
  | .readView => true
  | .readCounters => true
  | .limitBlock => false
  | .limitCancel => false
  | .shed => false
  | .clearConditions => false
  | .hold => false
  | .release => false
  | .forget => false
  | .restart => false
  | .stationReport => false
  | .alarm => false
  | .reply => false

/-- The fourth admission check: the permission set of the kind (R163, R182). -/
def permittedCommand (d : Descriptor) (kind : Kind) (f : Frame) : Bool :=
  readingKind kind
    || (match senderRoleOf f with
        | some r => (d.permissions.getD (kind.code.toNat - 4) 0#8).getLsbD (SenderRole.bit r)
        | none => false)

/-- The kinds that only a transfer station carries out (R163). -/
def transferKind : Kind → Bool
  | .limitBlock => true
  | .limitCancel => true
  | .shed => true
  | .clearConditions => false
  | .hold => false
  | .release => false
  | .forget => false
  | .restart => false
  | .readView => false
  | .readCounters => false
  | .stationReport => false
  | .alarm => false
  | .reply => false

/-- The sixth admission check (R164). -/
def valueCheck (kind : Kind) (f : Frame) (s : State) : ReplyOutcome :=
  match kind with
  | .limitBlock => if (readBlock f).isSome then .accepted else .badValue
  | .hold => if holdDuration f = 0 then .badValue else .accepted
  | .forget =>
    if namedNumber f = s.config.number then .badValue
    else if (findEntry (namedNumber f) s.peers.entries).isSome then .accepted
    else .noEntry
  | .readView =>
    if namedNumber f = s.config.number then .accepted
    else if (findEntry (namedNumber f) s.peers.entries).isSome then .accepted
    else .noEntry
  | .limitCancel => .accepted
  | .shed => .accepted
  | .clearConditions => .accepted
  | .release => .accepted
  | .restart => .accepted
  | .readCounters => .accepted
  | .stationReport => .accepted
  | .alarm => .accepted
  | .reply => .accepted

/-- The admission checks in their order: ACCEPTED, or the reason of the first that fails (R163). -/
def admission (kind : Kind) (f : Frame) (s : State) : ReplyOutcome :=
  if malformedCommand kind f then .malformed
  else if barredCommand s.config kind then .barred
  else if s.measure.functionActive .maintLock && s.config.lockEnable && lockedKind kind then .locked
  else if !permittedCommand s.config kind f then .notPermitted
  else if transferKind kind && s.isPlant then .wrongRole
  else valueCheck kind f s

/-! ### Reply data (R166, R180) -/

/-- The twelve counters in the order of R166, two to a group (R180). -/
def counterGroups (s : State) : List Group :=
  [ pairGroup (u16 s.line.goodFrames) (u16 s.line.correctedGroups),
    pairGroup (u16 s.line.damagedFrames) (u16 s.line.rxOverruns),
    pairGroup (u16 s.line.collisions) (u16 s.line.abandoned),
    pairGroup (u16 s.line.repliesLost) (u16 s.peers.duplicates),
    pairGroup (u16 s.peers.outOfOrder) (u16 s.peers.tableRefusals),
    pairGroup (u16 s.command.accepted) (u16 s.command.refused) ]

/-- Groups P1 to P7 of the view of a peer (R180); the flags of P4 that a PLANT entry does not hold are given (log 27). -/
def peerView (plantFlags : BitVec 4) (e : PeerEntry) : List Group :=
  let p1 := byteGroup (u8 e.number) (Role.code (RolePart.role e.part)) e.membership.code e.freshness.code
  let p2 := pairGroup (u16 e.age) (u16 e.acceptedCount)
  match e.part with
  | .transfer t =>
    [ p1, p2,
      byteGroup e.lastSequence e.peerMode.code (u8 t.cls) t.outcome.code,
      wordGroup (0#3 ++ bit t.shed ++ bit t.localHand ++ bit t.starved ++ bit t.wide ++ bit e.isolated)
        e.word,
      pairGroup (u16 t.qr) (u16 t.grant),
      pairGroup (u16 t.valve) (s16Opt t.margin),
      0#32 ]
  | .plant p =>
    [ p1, p2,
      byteGroup e.lastSequence e.peerMode.code 0#8 0#8,
      wordGroup (0#3 ++ plantFlags ++ bit e.isolated) e.word,
      pairGroup (u16 p.offer) (u16 p.head),
      pairGroup (u16Opt p.flow) (s16Opt p.criticalMargin),
      pairGroup (u16Opt p.critical) 0#16 ]

/-- The six bits of an input in the input status (R136, R180). -/
def inputBits (v : Input) (f : InputFunction) : BitVec 6 :=
  f.code ++ bit (decide (v.raw = .high)) ++ bit v.active ++ bit v.changed

/-- Group D6, the input status; its character 4 is given: nt in bits 5 to 0 in a transfer station (R180). -/
def inputStatus (m : MeasurementUnit) (last : Byte) : Group :=
  inputBits m.inputs.in0 m.functions.in0 ++ inputBits m.inputs.in1 m.functions.in1
    ++ inputBits m.inputs.in2 m.functions.in2 ++ inputBits m.inputs.in3 m.functions.in3 ++ last

/-- Groups D7 to D10, the head record (R121, R180). -/
def headRecord (s : State) : List Group :=
  [ pairGroup (u16 s.band.lo) (u16 s.band.hi),
    byteGroup s.head.headCase.code (u8 s.head.eligible) (u8 s.head.starvedEligible) 0#8,
    pairGroup (s16 s.head.lastMovement) (u16Opt s.head.offerBasis),
    pairGroup (u16Opt s.measure.dpf) 0#16 ]

/-- The run of 160 bits of the Allocation Record (R180). -/
def allocationRun (r : AllocationRecord) : BitVec 160 :=
  BitVec.ofNat 20 r.capacity ++ u20Opt r.s0 ++ u20Opt r.s1 ++ u20Opt r.s2 ++ u20Opt r.s3
    ++ u20Opt r.remainder ++ u16 r.requestUsed ++ u16Opt r.ownShare ++ BitVec.ofNat 6 r.stalePlants ++ 0#2

/-- Groups D7 to D11, the run cut into groups from its first bit on (R180). -/
def allocationGroups (r : AllocationRecord) : List Group :=
  let run := allocationRun r
  [ run.extractLsb' 128 32, run.extractLsb' 96 32, run.extractLsb' 64 32, run.extractLsb' 32 32,
    run.extractLsb' 0 32 ]

/-- The data groups of the view of the own number, by the own role (R166, R180); the bits 7 and 6 of character 4 of D6 in a
transfer station are given (log 29). -/
def ownView (spare : BitVec 2) (s : State) : List Group :=
  match s.config.role with
  | .transfer =>
    transferBody s ++ [inputStatus s.measure (spare ++ BitVec.ofNat 6 s.share.record.transferPeers)]
      ++ allocationGroups s.share.record
  | .plant => plantBody s ++ [inputStatus s.measure 0#8] ++ headRecord s

/-- Character 4 of the first group of a reply: zero, except in the own view of a transfer station, where it
holds FLOOR_APPLIED in bit 7 and nf in bits 5 to 0 (R180); bit 6 is given (log 29). -/
def ownViewTail (spare : BitVec 1) (s : State) : Byte :=
  match s.config.role with
  | .transfer => bit s.share.record.floorApplied ++ spare ++ BitVec.ofNat 6 s.share.record.freshPlants
  | .plant => 0#8

/-- The first group of a reply (R165, R180). -/
def replyHead (f : Frame) (outcome : ReplyOutcome) (tail : Byte) : Group :=
  byteGroup f.kind f.sequence outcome.code tail

/-- The body of the reply to an admitted command (R165, R166, R180). -/
def acceptedBody (kind : Kind) (f : Frame) (s : State) : List Group :=
  match kind with
  | .readCounters => replyHead f .accepted 0#8 :: counterGroups s
  | .readView =>
    if namedNumber f = s.config.number then
      let spare := Config.ownViewSpare s.line.draws s.command.accepted
      replyHead f .accepted (ownViewTail (spare.extractLsb' 2 1) s) :: ownView (spare.extractLsb' 0 2) s
    else
      match findEntry (namedNumber f) s.peers.entries with
      | some e => replyHead f .accepted 0#8 :: peerView (Config.plantViewFlags s.line.draws s.command.accepted) e
      | none => [replyHead f .accepted 0#8]
  | .limitBlock => [replyHead f .accepted 0#8]
  | .limitCancel => [replyHead f .accepted 0#8]
  | .shed => [replyHead f .accepted 0#8]
  | .clearConditions => [replyHead f .accepted 0#8]
  | .hold => [replyHead f .accepted 0#8]
  | .release => [replyHead f .accepted 0#8]
  | .forget => [replyHead f .accepted 0#8]
  | .restart => [replyHead f .accepted 0#8]
  | .stationReport => [replyHead f .accepted 0#8]
  | .alarm => [replyHead f .accepted 0#8]
  | .reply => [replyHead f .accepted 0#8]

/-! ### Taking a command (R162) -/

/-- Offer the reply of a command addressed to the own number; a broadcast command has none (R165). -/
def replyTo (f : Frame) (restart : Bool) (body : List Group) (s : State) : State :=
  if f.destination = 255#8 then s
  else offerReply ⟨f.source, f.sequence, body, restart⟩ s

/-- Count an admitted command (R164). -/
def countAccepted (s : State) : State :=
  s.setCommand { s.command with accepted := countUp s.command.accepted }

/-- Count a refused command (R164). -/
def countRefused (s : State) : State :=
  s.setCommand { s.command with refused := countUp s.command.refused }

/-- The broadcast kinds that are discarded (R162). -/
def discardedBroadcast : Kind → Bool
  | .readView => true
  | .readCounters => true
  | .forget => true
  | .restart => true
  | .limitBlock => false
  | .limitCancel => false
  | .shed => false
  | .clearConditions => false
  | .hold => false
  | .release => false
  | .stationReport => false
  | .alarm => false
  | .reply => false

/-- A command taken from the queue (R162 to R165): the discards in their order, then the admission checks.
`admitted` is what happens when every check passes, the reply among it. -/
def handleCommand (kind : Kind) (admitted : Frame → State → State) (f : Frame) (s : State) : State :=
  if s.control.mode = .joining then s
  else if f.source.toNat = s.config.number then setLatch .numberClash s
  else if f.destination = 255#8 ∧ discardedBroadcast kind = true then s
  else
    match admission kind f s with
    | .accepted => admitted f s
    | reason => replyTo f false [replyHead f reason 0#8] (countRefused s)

/-- An admitted command (R164, R165): its effect, its counter and its reply, in one event. -/
def admitCommand (kind : Kind) (effect : Frame → State → State) (f : Frame) (s : State) : State :=
  let s' := countAccepted (effect f s)
  replyTo f (decide (kind = .restart)) (acceptedBody kind f s') s'

/-- An admitted SHED: where its latch offers an ALARM and its reply is offered, the operand says which offer
is taken first (R157, log 7). -/
def admitShed (order : OfferOrder) (f : Frame) (s : State) : State :=
  match order with
  | .alarmFirst =>
    let s' := countAccepted (takeShed (shedThreshold f) (shedDuration f) s)
    replyTo f false (acceptedBody .shed f s') (arbitrate s')
  | .otherFirst =>
    let s' := countAccepted s
    takeShed (shedThreshold f) (shedDuration f)
      (arbitrate (replyTo f false (acceptedBody .shed f s') s'))

/-- The command at the front of the Receive Queue, if it is of this kind, is taken (R156, R162). -/
def takeCommand (kind : Kind) (admitted : Frame → State → State) (s : State) : State :=
  match takeFront (fun f => f.kind == kind.code) s with
  | some (f, s') => handleCommand kind admitted f s'
  | none => s

/-! ### The effects at the owning blocks -/

/-- LIMIT_BLOCK at the Limit Unit (R72). -/
def limitBlockEffect (f : Frame) (s : State) : State :=
  match readBlock f with
  | some b => s.setLimit (s.limit.arrive b)
  | none => s

/-- LIMIT_CANCEL at the Limit Unit (R77). -/
def limitCancelEffect (_f : Frame) (s : State) : State := s.setLimit s.limit.cancel

/-- A command with no effect but its reply. -/
def noEffect (_f : Frame) (s : State) : State := s

/-- An admitted CLEAR_CONDITIONS: where the offer of its own reply drops it and so sets REPLY_LOST, a free value says whether
the clear or that setting is taken first (R146, log 7). -/
def admitClear (f : Frame) (s : State) : State :=
  if Config.clearFirst s.line.draws s.line.repliesLost then
    admitCommand .clearConditions (fun f => clearConditions (clearMask f)) f s
  else clearConditions (clearMask f) (admitCommand .clearConditions noEffect f s)

/-! ### The command events -/

/-- LIMIT_BLOCK (R72). -/
def execLimitBlock (s : State) : Host.Outcome State Fault Refusal :=
  done (settle (takeCommand .limitBlock (admitCommand .limitBlock limitBlockEffect) s))

/-- LIMIT_CANCEL (R77). -/
def execLimitCancel (s : State) : Host.Outcome State Fault Refusal :=
  done (settle (takeCommand .limitCancel (admitCommand .limitCancel limitCancelEffect) s))

/-- SHED (R79). -/
def execShed (order : OfferOrder) (s : State) : Host.Outcome State Fault Refusal :=
  done (settle (takeCommand .shed (admitShed order) s))

/-- CLEAR_CONDITIONS (R146). -/
def execClearConditions (s : State) : Host.Outcome State Fault Refusal :=
  done (settle (takeCommand .clearConditions admitClear s))

/-- HOLD (R140). -/
def execHold (s : State) : Host.Outcome State Fault Refusal :=
  done (settle (takeCommand .hold (admitCommand .hold (fun f => enterHold (holdDuration f))) s))

/-- RELEASE (R141). -/
def execRelease (s : State) : Host.Outcome State Fault Refusal :=
  done (settle (takeCommand .release (admitCommand .release (fun _ => releaseHold)) s))

/-- FORGET (R26). -/
def execForget (s : State) : Host.Outcome State Fault Refusal :=
  done (settle (takeCommand .forget (admitCommand .forget (fun f => forgetEntry (namedNumber f))) s))

/-- RESTART (R167): the reply is marked, and the reset takes effect when it leaves the queue. -/
def execRestart (s : State) : Host.Outcome State Fault Refusal :=
  done (settle (takeCommand .restart (admitCommand .restart noEffect) s))

/-- READ_VIEW (R166). -/
def execReadView (s : State) : Host.Outcome State Fault Refusal :=
  done (settle (takeCommand .readView (admitCommand .readView noEffect) s))

/-- READ_COUNTERS (R166). -/
def execReadCounters (s : State) : Host.Outcome State Fault Refusal :=
  done (settle (takeCommand .readCounters (admitCommand .readCounters noEffect) s))

end Sys2Proof.Machine
end

