-- ==== Sys2Proof/Machine/Head.lean ====
section
/-! DEFINITION. The Head Reset Unit (spec/06): the choice of the critical station (R112), the head cases
(R113 to R118), the drive record (R119) and HEAD_CONTROL_PERIOD_EXPIRY (R110). -/

namespace Sys2Proof.Machine

/-! ### Eligible peers and the critical station -/

/-- The margin of an eligible peer: TRANSFER, IN_SECTOR, FRESH, margin present (R112). -/
def PeerEntry.eligibleMargin (e : PeerEntry) : Option Int :=
  match e.part with
  | .transfer t =>
    if e.membership = .inSector ∧ e.freshness = .fresh then t.margin else none
  | .plant _ => none

/-- The STARVED flag of an entry (R112). -/
def PeerEntry.reportsStarved (e : PeerEntry) : Bool :=
  match e.part with
  | .transfer t => t.starved
  | .plant _ => false

/-- The eligible peer with the least margin, the first in the table's order of those that hold it: its
number and its margin (R112). -/
def leastMargin : List PeerEntry → Option (Nat × Int)
  | [] => none
  | e :: rest =>
    match e.eligibleMargin, leastMargin rest with
    | none, later => later
    | some m, none => some (e.number, m)
    | some m, some (n, m') => if m ≤ m' then some (e.number, m) else some (n, m')

/-- How many entries are eligible peers (R112). -/
def eligibleCount (entries : List PeerEntry) : Nat :=
  entries.countP (fun e => e.eligibleMargin.isSome)

/-- How many eligible peers report STARVED (R112). -/
def starvedCount (entries : List PeerEntry) : Nat :=
  entries.countP (fun e => e.eligibleMargin.isSome && e.reportsStarved)

/-- The choice at an expiry: made in RUNNING and HOLD, not made in JOINING (R112). -/
def chooseCritical (s : State) : State :=
  if s.control.mode = .joining then
    s.setHead { s.head with eligible := 0, starvedEligible := 0, critical := none, criticalMargin := none }
  else
    let least := leastMargin s.peers.entries
    s.setHead
      { s.head with
        eligible := eligibleCount s.peers.entries
        starvedEligible := starvedCount s.peers.entries
        critical := least.map (fun p => p.1)
        criticalMargin := least.map (fun p => p.2) }

/-! ### The head cases -/

/-- The head case, by the first condition that applies (R113). -/
def headCaseOf (mode : Mode) (isolated : Bool) (eligible starved : Nat) : HeadCase :=
  if mode = .joining then .joining
  else if mode = .hold then .hold
  else if isolated then .isolated
  else if eligible = 0 then .noPeers
  else if 0 < starved then .starved
  else .proportional

/-- The movement of the PROPORTIONAL case: against Mc, limited to plus or minus Hstep (R117). -/
def proportionalMove (d : Descriptor) (mc : Int) : Int :=
  limitChange d.hStep (-(truncDiv ((d.kh : Int) * mc) 64))

/-- H after a head case and the band clamp (R113 to R118). -/
def headAfter (d : Descriptor) (b : DriveBand) (case : HeadCase) (mc : Option Int) (h : Nat) : Nat :=
  match case with
  | .none => clampNat b.lo b.hi h
  | .joining => clampNat b.lo b.hi d.hStart
  | .hold => clampNat b.lo b.hi h
  | .isolated =>
    clampNat b.lo b.hi
      (if h < d.hIsolated then min (h + d.hStep) d.hIsolated
       else if d.hIsolated < h then max (h - d.hStep) d.hIsolated
       else h)
  | .noPeers => clampNat b.lo b.hi h
  | .starved => clampNat b.lo b.hi (h + d.hStep)
  | .proportional =>
    match mc with
    | some m => moveWithin b.lo b.hi h (proportionalMove d m)
    | none => clampNat b.lo b.hi h

/-- The head case and the movement, with the choice made (R113, R118). -/
def moveHead (s : State) : State :=
  let case := headCaseOf s.control.mode s.line.isolated s.head.eligible s.head.starvedEligible
  let h := headAfter s.config s.band case s.head.criticalMargin s.head.setpoint
  s.setHead
    { s.head with
      headCase := case
      setpoint := h
      lastMovement := (h : Int) - (s.head.setpoint : Int) }

/-- The drive record of the Head Reset Unit (R119). -/
def headDrive (s : State) : State :=
  s.sendDrive (driveRecord false s.liveHold false false (u16 s.head.setpoint))

/-- HEAD_CONTROL_PERIOD_EXPIRY (R110): the choice, the head case, the band clamp and the drive record; the
timer is restarted and the change trigger is evaluated. -/
def headPeriodExpiry (s : State) : State :=
  if s.head.periodTimer.isRunning then changeTrigger (headDrive (moveHead (chooseCritical s))) else s

/-- HEAD_CONTROL_PERIOD_EXPIRY (R110). -/
def execHeadControlPeriodExpiry (s : State) : Host.Outcome State Fault Refusal :=
  done (settle (headPeriodExpiry s))

end Sys2Proof.Machine
end

