-- ==== Sys2Proof/Machine/Line.lean ====
section
/-! DEFINITION. The Line Unit (spec/09): the line state (R152), receiving (R153 to R156), attempts and
contention (R159, R160), departures (R158, R44, R149, R167), silence (R161), and their events. -/

namespace Sys2Proof.Machine

/-! ### The line (R152) -/

/-- The receiver hears the line: JOINING, RUNNING or HOLD, and the station neither sends nor jams (R151,
R152). -/
def State.hears (s : State) : Bool :=
  s.active && (decide (s.line.lineState = .idle) || decide (s.line.lineState = .busy))

/-- START_BIT_HEARD (R152, R159): the line goes from IDLE to BUSY, and an entry that was holding off waits
for the line to be IDLE once more, with the same h. -/
def startBitHeard (s : State) : State :=
  if s.hears then s.setLine { s.line with lineState := .busy } else s

/-- Discard the frame in progress as damaged, broken off or with an invalid header (R154). -/
def discardFrame (s : State) : State :=
  setLatch .damagedSeen
    (s.setLine
      { s.line with
        receiver := .skipping
        damagedFrames := countUp s.line.damagedFrames })

/-- The receiver gathers the groups of a frame. -/
def Receiver.inFrame : Receiver → Bool
  | .gathering _ => true
  | .testing => false
  | .skipping => false

/-- LINE_IDLE (R152, R154): the line becomes IDLE, a frame in progress ends as broken off, and the next
character is tested as a marker. -/
def lineIdle (s : State) : State :=
  if s.active && decide (s.line.lineState = .busy) then
    let s1 := if s.line.receiver.inFrame then discardFrame s else s
    s1.setLine
      { s1.line with
        lineState := .idle
        receiver := .testing }
  else s

/-- BREAK_DETECTED (R152, R154, R160): COLLISIONS is incremented and a partial frame is discarded; a run of
space that began during the station's own JAM is part of that jam and is no break. -/
def breakDetected (fromOwnJam : Bool) (s : State) : State :=
  if s.hears && !fromOwnJam then
    s.setLine
      { s.line with
        lineState := .busy
        receiver := if s.line.receiver.inFrame then .skipping else s.line.receiver
        collisions := countUp s.line.collisions }
  else s

/-- SILENCE_TIMER_EXPIRY (R161). -/
def silenceTimerExpiry (s : State) : State :=
  if s.line.silenceTimer.isRunning then
    s.setLine
      { s.line with
        isolated := true
        silenceTimer := .stopped }
  else s

/-! ### Receiving a frame (R153 to R156) -/

/-- MARKER_RECEIVED (R153): the first character after the line has been IDLE begins a frame if it is the
marker, and otherwise is skipped until the line is next IDLE. -/
def markerReceived (character : Byte) (s : State) : State :=
  if s.hears && decide (s.line.receiver = .testing) then
    s.setLine
      { s.line with
        lineState := .busy
        receiver := if character = marker then .gathering [] else .skipping }
  else s

/-- What the completion of a group makes of the frame in progress (R153, R154, R155). -/
inductive GroupStep where
  | ignored
  | gathered (corrected : Bool) (groups : List Group)
  | complete (corrected : Bool) (f : Frame)
  | discarded (corrected : Bool)
  deriving DecidableEq, Repr

/-- A header is invalid: source 0 or 255, or body group count above 12 (R154). -/
def invalidHeader (h1 h2 : Group) : Bool :=
  decide (Group.c2 h1 = 0#8) || decide (Group.c2 h1 = 255#8) || decide (12 < (Group.c1 h2).toNat)

/-- The groups gathered so far, judged (R153, R154): the header when header group 2 completes, the frame
when the last announced group has arrived. -/
def judgeGroups (corrected : Bool) (groups : List Group) : GroupStep :=
  match groups with
  | h1 :: h2 :: body =>
    if body.isEmpty && invalidHeader h1 h2 then .discarded corrected
    else if (Group.c1 h2).toNat ≤ body.length then .complete corrected (frameOfGroups h1 h2 body)
    else .gathered corrected groups
  | _ => .gathered corrected groups

/-- The completion of a group of the frame in progress (R153). -/
def groupStep (u : LineUnit) (raw : RawGroup) : GroupStep :=
  match u.receiver with
  | .gathering groups =>
    match decodeGroup raw with
    | .clean g => judgeGroups false (groups ++ [g])
    | .corrected g => judgeGroups true (groups ++ [g])
    | .damaged => .discarded false
  | .testing => .ignored
  | .skipping => .ignored

/-- CORRECTED_GROUPS is incremented for a corrected group, whether or not the frame is kept (R153). -/
def countCorrected (corrected : Bool) (s : State) : State :=
  if corrected then s.setLine { s.line with correctedGroups := countUp s.line.correctedGroups } else s

/-- GROUP_COMPLETE (R153): the group is decoded CLEAN or CORRECTED and the receiver goes on gathering. -/
def groupComplete (raw : RawGroup) (s : State) : State :=
  if s.hears then
    match groupStep s.line raw with
    | .gathered corrected groups =>
      countCorrected corrected (s.setLine { s.line with receiver := .gathering groups })
    | .complete _ _ => s
    | .discarded _ => s
    | .ignored => s
  else s

/-- FRAME_DISCARDED (R153, R154): a group is DAMAGED, or header group 2 completes an invalid header. -/
def frameDiscarded (raw : RawGroup) (s : State) : State :=
  if s.hears then
    match groupStep s.line raw with
    | .discarded corrected => discardFrame (countCorrected corrected s)
    | .gathered _ _ => s
    | .complete _ _ => s
    | .ignored => s
  else s

/-- A good frame is offered to the Receive Queue (R156). -/
def offerFrame (f : Frame) (s : State) : State :=
  if s.line.rxQueue.length < Config.rxCapacity then
    s.setLine { s.line with rxQueue := s.line.rxQueue ++ [f] }
  else
    setLatch .rxOverrun (s.setLine { s.line with rxOverruns := countUp s.line.rxOverruns })

/-- A well-formed frame is completed (R155). -/
def receiveFrame (f : Frame) (s : State) : State :=
  let s1 := s.setLine
    { s.line with
      silenceTimer := startSeconds s.config.silenceTime
      isolated := false }
  if !isKindCode f.kind then s1
  else if f.destination.toNat ≠ s.config.number ∧ f.destination ≠ 255#8 then s1
  else
    let s2 := s1.setLine { s1.line with goodFrames := countUp s1.line.goodFrames }
    if f.kind = Kind.reply.code then s2 else offerFrame f s2

/-- FRAME_RECEIVED (R153, R155): the last announced group completes a well-formed frame. -/
def frameReceived (raw : RawGroup) (s : State) : State :=
  if s.hears then
    match groupStep s.line raw with
    | .complete corrected f =>
      let s1 := countCorrected corrected s
      receiveFrame f (s1.setLine { s1.line with receiver := .skipping })
    | .gathered _ _ => s
    | .discarded _ => s
    | .ignored => s
  else s

/-! ### Attempts and contention (R159, R160) -/

/-- The frame of an ALARM entry (R150). -/
def alarmFrame (sequence : Byte) (s : State) : Frame where
  destination := 255#8
  source := u8 s.config.number
  kind := Kind.alarm.code
  sequence := sequence
  groupCount := 1#8
  flags := 0#8
  senderRole := Role.code s.config.role
  senderMode := s.senderMode.code
  body := [wordGroup 0#8 s.conditionWord]

/-- The frame of a REPLY entry (R165). -/
def replyFrame (r : Reply) (s : State) : Frame where
  destination := r.destination
  source := u8 s.config.number
  kind := Kind.reply.code
  sequence := r.sequence
  groupCount := u8 r.groups.length
  flags := 0#8
  senderRole := Role.code s.config.role
  senderMode := s.senderMode.code
  body := r.groups

/-- Put the first character of a frame on the line: OWN_TRANSMIT, with the entry as it stands from now on
(R159). -/
def sendFrame (e : TxEntry) (f : Frame) (s : State) : State :=
  s.setLine
    { s.line with
      lineState := .ownTransmit
      inFlight := some e
      sending := f.characters }

/-- An attempt start of an entry: its contents are captured, and at the first attempt its sequence number
and what goes with it are decided (R35 to R38, R150, R165). -/
def startAttempt (e : TxEntry) (s : State) : State :=
  match e with
  | .report (some (sequence, start)) => sendFrame e (reportFrame sequence start s) s
  | .report none =>
    let sequence := s.reports.sequence
    let start := decide (0 < s.reports.startCountdown)
    sendFrame (.report (some (sequence, start))) (reportFrame sequence start s) (numberReport s)
  | .alarm (some sequence) => sendFrame e (alarmFrame sequence s) s
  | .alarm none =>
    let sequence := s.condition.alarmSequence
    sendFrame (.alarm (some sequence)) (alarmFrame sequence s)
      (s.setCondition { s.condition with alarmSequence := sequence + 1#8 })
  | .reply r => sendFrame e (replyFrame r s) s

/-- ATTEMPT_START (R159): the line is IDLE and the holdoff has passed. -/
def attemptStart (s : State) : State :=
  match s.line.inFlight with
  | some e => if s.speaking && decide (s.line.lineState = .idle) then startAttempt e s else s
  | none => s

/-- COLLISION (R160): the attempt ends, the jam starts, COLLISIONS and the attempt count are incremented. -/
def collision (s : State) : State :=
  if decide (s.line.lineState = .ownTransmit) && s.line.inFlight.isSome then
    s.setLine
      { s.line with
        lineState := .jam
        sending := []
        collisions := countUp s.line.collisions
        attempts := s.line.attempts + 1 }
  else s

/-! ### Departures (R158, R44, R149, R167) -/

/-- No entry is in flight any more (log 8). -/
def clearInFlight (s : State) : State :=
  s.setLine
    { s.line with
      inFlight := none
      attempts := 0
      window := Config.firstWindow
      holdoff := none }

/-- What the departure of an entry makes the Condition Unit offer: a further ALARM if alarm-due is set and
the ALARM entry departs (R149); for an abandoned entry TX_ABANDON is latched as well (R160), and that further ALARM
serves for it (R148, log 15). -/
def departureAlarm (abandoned : Bool) (e : TxEntry) (s : State) : State :=
  let s1 := if e.isAlarm && s.speaking then offerDueAlarm s else s
  if abandoned then setLatch .txAbandon s1 else s1

/-- The in-flight entry departs: the offering blocks are told, a report may be queued (R44), an ALARM
offered (R149) or a RESTART reset brought (R167), and the arbiter chooses again (R158). The operands say in
which order the choice and the offers are taken (log 7). -/
def depart (abandoned : Bool) (choice : ChoiceOrder) (order : OfferOrder) (s : State) : State :=
  match s.line.inFlight with
  | none => s
  | some e =>
    let s1 := noteDeparture e (clearInFlight s)
    match choice, order with
    | .choiceFirst, .alarmFirst => queueReport (arbitrate (departureAlarm abandoned e (arbitrate s1)))
    | .choiceFirst, .otherFirst => departureAlarm abandoned e (arbitrate (queueReport (arbitrate s1)))
    | .offersFirst, .alarmFirst | .latchFirst, .alarmFirst => queueReport (departureAlarm abandoned e s1)
    | .offersFirst, .otherFirst | .latchFirst, .otherFirst => departureAlarm abandoned e (queueReport s1)

/-- The in-flight entry is abandoned: it departs and TX_ABANDON is latched, after the departure or, by the operand, before
it, where the ALARM that the latch calls for finds the queue with the abandoned entry still in it (R157, R160, log 7). -/
def abandon (choice : ChoiceOrder) (order : OfferOrder) (s : State) : State :=
  match choice with
  | .latchFirst => depart false choice order (setLatch .txAbandon s)
  | .choiceFirst | .offersFirst => depart true choice order s

/-- JAM_END (R160): the entry waits again with a doubled window and a new draw, or is abandoned after its
eighth attempt. -/
def jamEnd (choice : ChoiceOrder) (order : OfferOrder) (s : State) : State :=
  if s.line.lineState = .jam then
    let s1 := s.setLine { s.line with lineState := .busy }
    if s.line.attempts < Config.maxAttempts then
      s1.setLine (drawHoldoff { s1.line with window := min (2 * s1.line.window) Config.lastWindow })
    else
      abandon choice order (s1.setLine { s1.line with abandoned := countUp s1.line.abandoned })
  else s

/-- ENTRY_SENT (R160): the last character is sent and every echo matched. -/
def entrySent (choice : ChoiceOrder) (order : OfferOrder) (s : State) : State :=
  if s.line.lineState = .ownTransmit then
    depart false choice order
      (s.setLine
        { s.line with
          lineState := .busy
          sending := [] })
  else s

/-! ### The events -/

/-- SILENCE_TIMER_EXPIRY (R161). -/
def execSilenceTimerExpiry (s : State) : Host.Outcome State Fault Refusal :=
  done (settle (silenceTimerExpiry s))

/-- FRAME_RECEIVED (R155). -/
def execFrameReceived (raw : RawGroup) (s : State) : Host.Outcome State Fault Refusal :=
  done (settle (frameReceived raw s))

/-- FRAME_DISCARDED (R154). -/
def execFrameDiscarded (raw : RawGroup) (s : State) : Host.Outcome State Fault Refusal :=
  done (settle (frameDiscarded raw s))

/-- BREAK_DETECTED (R152). -/
def execBreakDetected (fromOwnJam : Bool) (s : State) : Host.Outcome State Fault Refusal :=
  done (settle (breakDetected fromOwnJam s))

/-- LINE_IDLE (R152). -/
def execLineIdle (s : State) : Host.Outcome State Fault Refusal := done (settle (lineIdle s))

/-- START_BIT_HEARD (R159). -/
def execStartBitHeard (s : State) : Host.Outcome State Fault Refusal := done (settle (startBitHeard s))

/-- ATTEMPT_START (R159). -/
def execAttemptStart (s : State) : Host.Outcome State Fault Refusal := done (settle (attemptStart s))

/-- COLLISION (R160). -/
def execCollision (s : State) : Host.Outcome State Fault Refusal := done (settle (collision s))

/-- JAM_END (R160). -/
def execJamEnd (choice : ChoiceOrder) (order : OfferOrder) (s : State) :
    Host.Outcome State Fault Refusal :=
  done (settle (jamEnd choice order s))

/-- ENTRY_SENT (R160). -/
def execEntrySent (choice : ChoiceOrder) (order : OfferOrder) (s : State) :
    Host.Outcome State Fault Refusal :=
  done (settle (entrySent choice order s))

/-- GROUP_COMPLETE (R153). -/
def execGroupComplete (raw : RawGroup) (s : State) : Host.Outcome State Fault Refusal :=
  done (settle (groupComplete raw s))

/-- MARKER_RECEIVED (R153). -/
def execMarkerReceived (character : Byte) (s : State) : Host.Outcome State Fault Refusal :=
  done (settle (markerReceived character s))

end Sys2Proof.Machine
end

