-- ==== Sys2Proof/Machine/Measure.lean ====
section
/-! DEFINITION. The Measurement Unit (spec/07): sample records (R124 to R126), the DP filter (R131), the hold
and sample timers (R127, R128), the discrete inputs (R133, R134), and their events. -/

namespace Sys2Proof.Machine

/-- The state of a field after an accepted record, by its judgement: good with a value, or bad (R126). -/
def judgedField (holdTime : Nat) (f : Field) : Option Nat → Field
  | some v => ⟨some v, .good, .stopped⟩
  | none =>
    match f.state with
    | .good => ⟨f.value, .held, startSeconds holdTime⟩
    | .held => f
    | .absent => f

/-- Every field of a record is moved (R126). -/
def applyReadings (holdTime : Nat) : List (FieldName × Option Nat) → Fields → Fields
  | [], fs => fs
  | (n, r) :: rest, fs => applyReadings holdTime rest (fs.set n (judgedField holdTime (fs.get n) r))

/-- One step of the DP filter toward a good reading (R131). -/
def filterStep (a dpf dp : Nat) : Nat :=
  ((dpf : Int) + truncDiv (((dp : Int) - (dpf : Int)) * (a : Int)) 16).toNat

/-- DPf after a record, from the DP field after it (R131); DPf holds a value exactly while the DP field was
GOOD or HELD (R132). -/
def filteredPressure (a : Nat) (dpf : Option Nat) (dp : Field) : Option Nat :=
  match dp.state with
  | .absent => none
  | .held => dpf
  | .good =>
    match dp.value, dpf with
    | some v, some p => some (filterStep a p v)
    | some v, none => some v
    | none, _ => none

/-- An accepted record, applied as one event (R124). -/
def acceptRecord (characters : List Byte) (s : State) : State :=
  let readings := sampleReadings characters 0 (fieldSet s.config.role)
  let fields := applyReadings s.config.holdTime readings s.measure.fields
  recomputeOffer
    (s.setMeasure
      { s.measure with
        fields := fields
        dpf := filteredPressure s.config.filterA s.measure.dpf fields.dp
        sampleTimer := startTenths s.config.sampleTimeout })

/-- SAMPLE_RECORD (R124): a complete record of the own role's field set is accepted in JOINING, RUNNING and
HOLD; any other is discarded and changes nothing. -/
def sampleRecord (characters : List Byte) (s : State) : State :=
  if s.active && sampleRecordComplete characters
      && decide (recordRole characters = some s.config.role) then
    acceptRecord characters s
  else s

/-- A field at the expiry of the sample timer (R128). -/
def missedField (holdTime : Nat) (f : Field) : Field :=
  match f.state with
  | .good => ⟨f.value, .held, startSeconds holdTime⟩
  | .held => f
  | .absent => f

/-- SAMPLE_TIMER_EXPIRY (R128). -/
def sampleTimerExpiry (s : State) : State :=
  if s.measure.sampleTimer.isRunning then
    setLatch .sampleMissing
      (s.setMeasure
        { s.measure with
          fields := s.measure.fields.mapEach (missedField s.config.holdTime)
          sampleTimer := .stopped })
  else s

/-- FIELD_HOLD_TIMER_EXPIRY of one field (R127): the field becomes ABSENT, with DPf for DP and the offer for
Qavail, and FIELD_ABSENT is latched. -/
def fieldHoldTimerExpiry (n : FieldName) (s : State) : State :=
  if (s.measure.fields.get n).holdTimer.isRunning then
    let s1 := s.setMeasure
      { s.measure with
        fields := s.measure.fields.set n .atReset
        dpf := if n = .dp then none else s.measure.dpf }
    setLatch .fieldAbsent (if n = .qavail then recomputeOffer s1 else s1)
  else s

/-- RAW_LEVEL_CHANGE of one input (R133): the raw level follows its pin at every moment, and is dealt with
while the inputs are watched. -/
def rawLevelChange (i : InputName) (level : Level) (s : State) : State :=
  let v := s.measure.inputs.get i
  if v.raw = level then s
  else
    let s1 := setInput i { v with raw := level } s
    if s.active then rawChanged i s1 else s1

/-- DEBOUNCE_TIMER_EXPIRY of one input (R133). -/
def debounceTimerExpiry (i : InputName) (s : State) : State :=
  if (s.measure.inputs.get i).debounceTimer.isRunning then recogniseChange i s else s

/-- SAMPLE_RECORD (R124). -/
def execSampleRecord (characters : List Byte) (s : State) : Host.Outcome State Fault Refusal :=
  done (settle (sampleRecord characters s))

/-- SAMPLE_RECORD_BROKEN (R124): the record in progress is discarded, which changes no field, no timer, no
value, no latch and no counter. -/
def execSampleRecordBroken (s : State) : Host.Outcome State Fault Refusal := done s

/-- SAMPLE_TIMER_EXPIRY (R128). -/
def execSampleTimerExpiry (s : State) : Host.Outcome State Fault Refusal :=
  done (settle (sampleTimerExpiry s))

/-- FIELD_HOLD_TIMER_EXPIRY (R127). -/
def execFieldHoldTimerExpiry (n : FieldName) (s : State) : Host.Outcome State Fault Refusal :=
  done (settle (fieldHoldTimerExpiry n s))

/-- RAW_LEVEL_CHANGE (R133). -/
def execRawLevelChange (i : InputName) (level : Level) (s : State) : Host.Outcome State Fault Refusal :=
  done (settle (rawLevelChange i level s))

/-- DEBOUNCE_TIMER_EXPIRY (R133). -/
def execDebounceTimerExpiry (i : InputName) (s : State) : Host.Outcome State Fault Refusal :=
  done (settle (debounceTimerExpiry i s))

end Sys2Proof.Machine
end

