-- ==== Sys2Proof/Machine/Startup.lean ====
section
/-! DEFINITION. Start-up (spec/11): the reset pin (R168), STARTING (R169), the judgement of the descriptor
(R170 to R172), leaving STARTING (R173, R139), and UNCONFIGURED (R170). -/

namespace Sys2Proof.Machine

/-- RESET_PIN_ASSERT (R168): everything in progress ends and the station is held in reset, with the restart
cause clear. -/
def resetPinAssert (s : State) : State := resetBlocks s

/-- RESET_PIN_RELEASE (R168, R169): STARTING is entered with the restart cause clear, the straps are sampled
and the descriptor read begins on the memory lane. -/
def resetPinRelease (pins : StrapPins) (s : State) : State :=
  if s.control.pinAsserted then
    s.setControl
      { s.control with
        pinAsserted := false
        restartCause := false
        strapPins := pins
        strapReading := readStraps pins
        memoryLane := readRequest }
  else s

/-- The descriptor read is in progress: STARTING with the pin released (R169). -/
def State.readInProgress (s : State) : Bool :=
  decide (s.control.mode = .starting) && !s.control.pinAsserted

/-- The end of the descriptor read on the memory lane: the 106 bytes are read and the memory is released (R169). -/
def readEnd : List MemorySignal := [.read Config.descriptorLength, .release]

/-- A SAFE drive record is sent (R170); its FAILSAFE flag is a free value (log 28). -/
def sendSafeRecord (s : State) : State :=
  s.sendDrive (safeRecord (Config.safeRecordFailsafe s.driveLane.length))

/-- An invalid descriptor ends STARTING in UNCONFIGURED: a SAFE record is sent on entry and the one-second
timer is started (R170). DEDUCED (log 22): the restart cause is cleared, since STARTING ends here too
(R138). -/
def enterUnconfigured (s : State) : State :=
  sendSafeRecord (s.setControl
    { s.control with
      mode := .unconfigured
      restartCause := false
      memoryLane := s.control.memoryLane ++ readEnd
      safeTimer := startTenths Config.oneSecond })

/-- SAFE_RECORD_TIMER_EXPIRY (R170): a SAFE record is sent and the timer is restarted. -/
def safeRecordTimerExpiry (s : State) : State :=
  if s.control.safeTimer.isRunning then sendSafeRecord s else s

/-- What a valid descriptor and the straps make (R171, R172, R135). -/
structure Loaded where
  descriptor : Descriptor
  band : DriveBand
  functions : PerInput InputFunction
  clamped : Bool
  deriving DecidableEq, Repr

/-- Whether any input's function is treated as NONE (R135). -/
def anyFunctionReplaced (role : Role) (codes : PerInput Byte) : Bool :=
  codes.toList.any (functionReplaced role)

/-- Load a valid descriptor: clamp it (R171), derive the drive band (R172), take the functions (R135);
DESCRIPTOR_CLAMPED is called for when any of them changed a value. -/
def loadDescriptor (raw : Descriptor) (straps : StrapReading) : Loaded :=
  let d := clampDescriptor raw
  let band := effectiveBand d (hardwareBand straps (driveRange d))
  { descriptor := clampIntoBand d band.1
    band := band.1
    functions := d.functionCodes.mapEach (functionInForce d.role)
    clamped := decide (d ≠ raw) || band.2 || anyFunctionReplaced d.role d.functionCodes }

/-- The loaded configuration is made available, V of a transfer station and H of a plant station take their reset values,
and the mode becomes JOINING with its timers started (R84, R106, R139, R173). The H of a transfer station, for which R172
derives no head band, and the V of a plant station stay at the model's 0 (log 2). -/
def enterJoining (l : Loaded) (s : State) : State :=
  let d := l.descriptor
  let s1 := s.setControl
    { s.control with
      mode := .joining
      joinTimer := startSeconds d.joinTime
      restartCause := false
      descriptor := some d
      driveBand := some l.band
      memoryLane := s.control.memoryLane ++ readEnd }
  let s2 := s1.setLine { s1.line with silenceTimer := startSeconds d.silenceTime }
  let s3 := s2.setMeasure
    { s2.measure with
      functions := l.functions
      sampleTimer := startTenths d.sampleTimeout }
  match d.role with
  | .transfer =>
    s3.setValve
      { s3.valve with
        command := d.failPosition
        periodTimer := startTenths d.controlPeriod }
  | .plant =>
    s3.setHead
      { s3.head with
        setpoint := d.hStart
        periodTimer := startTenths d.controlPeriod }

/-- At the entry to JOINING an input found active is treated as though its raw level had just changed
(R133). -/
def watchInput (i : InputName) (s : State) : State :=
  if rawActive s.config i (s.measure.inputs.get i).raw then rawChanged i s else s

/-- All four inputs are watched from the entry to JOINING (R133). -/
def watchInputs (s : State) : State :=
  watchInput .in3 (watchInput .in2 (watchInput .in1 (watchInput .in0 s)))

/-- The end of STARTING with a valid descriptor (R173): the configuration is loaded, DESCRIPTOR_CLAMPED and
RESTARTED are latched as due, and JOINING is entered. -/
def leaveStarting (l : Loaded) (s : State) : State :=
  let s1 := enterJoining l s
  let s2 := if l.clamped then setLatch .descriptorClamped s1 else s1
  let s3 := if s.control.restartCause then setLatch .restarted s2 else s2
  watchInputs s3

/-- DESCRIPTOR_READ_COMPLETE (R170, R173): the descriptor is judged, and STARTING ends. -/
def descriptorReadComplete (bytes : List Byte) (s : State) : State :=
  if s.readInProgress then
    match judgeDescriptor bytes with
    | some raw => leaveStarting (loadDescriptor raw s.control.strapReading) s
    | none => enterUnconfigured s
  else s

/-- RESET_PIN_ASSERT (R168). -/
def execResetPinAssert (s : State) : Host.Outcome State Fault Refusal := done (settle (resetPinAssert s))

/-- RESET_PIN_RELEASE (R168). -/
def execResetPinRelease (pins : StrapPins) (s : State) : Host.Outcome State Fault Refusal :=
  done (settle (resetPinRelease pins s))

/-- DESCRIPTOR_READ_COMPLETE (R170). -/
def execDescriptorReadComplete (bytes : List Byte) (s : State) : Host.Outcome State Fault Refusal :=
  done (settle (descriptorReadComplete bytes s))

/-- SAFE_RECORD_TIMER_EXPIRY (R170). -/
def execSafeRecordTimerExpiry (s : State) : Host.Outcome State Fault Refusal :=
  done (settle (safeRecordTimerExpiry s))

end Sys2Proof.Machine
end

