-- ==== Sys2Proof/Machine/Valve.lean ====
section
/-! DEFINITION. The Valve Loop (spec/05): Stages 1 to 7 (R88 to R103) and
VALVE_LOOP_CONTROL_PERIOD_EXPIRY (R86). -/

namespace Sys2Proof.Machine

/-! ### Stages 1 to 3 -/

/-- Stage 1: dT when both temperatures are present (R88). -/
def deltaT (ts tr : Option Nat) : Option Int :=
  match ts, tr with
  | some a, some b => some ((b : Int) - (a : Int))
  | _, _ => none

/-- Stage 1: the limiter factor after a dT (R88). -/
def limiterAfter (d : Descriptor) (l : Nat) : Option Int → Nat
  | none => l
  | some dt =>
    if dt < (d.dTmin : Int) then max d.lFloor (l - d.lTight)
    else if (d.dTmin : Int) + (d.dThys : Int) ≤ dt then min 1000 (l + d.lRelax)
    else l

/-- Stage 2: the building request after the limiter (R90). -/
def buildingRequest (closed : Bool) (qb : Option Nat) (qDef l : Nat) : Nat :=
  if closed then 0
  else
    match qb with
    | some q => q * l / 1000
    | none => qDef * l / 1000

/-- Stages 1 to 3 at the Valve Loop: L, dT, Qreq and Qr (R88, R90, R91, R82). -/
def stagesOneToThree (s : State) : State :=
  let dt := deltaT (s.reading .ts) (s.reading .tr)
  let l := limiterAfter s.config s.valve.limiter dt
  let qreq := buildingRequest (s.measure.functionActive .isolationClosed) (s.reading .qb) s.config.qDef l
  s.setValve
    { s.valve with
      limiter := l
      lastDt := dt
      qreq := qreq
      qr := leastPresent qreq [s.limit.limitInForce, s.shedCap] }

/-- The computation that answers the publication, taken inside the control-period event; in JOINING the publication is
dropped (R49, R50). -/
def answerPublication (s : State) : State := if s.speaking && s.isTransfer then takeComputation s else s

/-- The publication of Qr (R49, R50, R53): dropped in JOINING; otherwise a trigger, whose computation is taken at once, or
later in this event, or as a SHARE_COMPUTATION after it (log 7). -/
def publish (order : GrantOrder) (s : State) : State :=
  match order with
  | .computationFirst => answerPublication s
  | .readThenComputation => s
  | .readFirst => shareTrigger s

/-- The computation that answers the publication, taken after the read of the grant and before the change trigger of the
same control-period end, where the order says so (R53, R144, log 7). -/
def computeBeforeEnd (order : GrantOrder) (s : State) : State :=
  match order with
  | .computationFirst => s
  | .readThenComputation => answerPublication s
  | .readFirst => s

/-! ### Stages 4 to 6 -/

/-- Stage 5, normal case: V after one step toward the target (R96), or Vlo when ISOLATION_CLOSED is active
(R97). -/
def normalCommand (d : Descriptor) (b : DriveBand) (closed : Bool) (v qt q : Nat) : Nat :=
  if closed then b.lo
  else
    moveWithin b.lo b.hi v
      (limitChange d.rMax (truncDiv (((qt : Int) - (q : Int)) * (d.kv : Int)) 256))

/-- Stage 5: V by the first case that applies (R93 to R97). -/
def valveCommand (d : Descriptor) (b : DriveBand) (mode : Mode) (q vf : Option Nat) (inHand closed : Bool)
    (v qt : Nat) : Nat :=
  match q with
  | none => d.failPosition
  | some flow =>
    if mode = .joining then d.failPosition
    else if mode = .hold then v
    else if inHand then
      match vf with
      | some p => clampNat b.lo b.hi p
      | none => v
    else normalCommand d b closed v qt flow

/-- Stage 5: FAILSAFE is true when the first case is taken (R93, R98). -/
def takesFailCase (mode : Mode) (q : Option Nat) : Bool := q.isNone || decide (mode = .joining)

/-- Stage 6: WIDE (R99). -/
def wideFlag (d : Descriptor) (b : DriveBand) (v : Nat) : Bool := decide (min d.vWide b.hi ≤ v)

/-- Stage 6: the starve count after an expiry (R100). -/
def starveAfter (d : Descriptor) (wide : Bool) (q : Option Nat) (qt count : Nat) : Nat :=
  match q with
  | some flow =>
    if wide ∧ flow + d.starveMargin < qt then (if count = d.starveCount then count else count + 1) else 0
  | none => 0

/-- Stage 6: the margin M (R101). -/
def marginOf (d : Descriptor) (dp : Option Nat) (dpf : Option Nat) : Option Int :=
  match dp with
  | some _ => dpf.map (fun v => clampInt (-3000) 3000 ((v : Int) - (d.dpReq : Int)))
  | none => none

/-- Stages 4 to 6 at the Valve Loop (R92 to R101). -/
def stagesFourToSix (s : State) : State :=
  let mode := s.control.mode
  let q := s.reading .q
  let qt := min s.valve.qr s.share.record.grant
  let inHand := s.measure.functionActive .localHand
  let v := valveCommand s.config s.band mode q (s.reading .vf) inHand
    (s.measure.functionActive .isolationClosed) s.valve.command qt
  let wide := wideFlag s.config s.band v
  let starve := starveAfter s.config wide q qt s.valve.starve
  s.setValve
    { s.valve with
      qt := qt
      command := v
      failsafe := takesFailCase mode q
      localHand := inHand
      wide := wide
      starve := starve
      starved := decide (starve = s.config.starveCount)
      margin := marginOf s.config (s.reading .dp) s.measure.dpf }

/-! ### Stage 7 -/

/-- Stage 7: the drive record of the Valve Loop (R103). -/
def valveDrive (s : State) : State :=
  s.sendDrive (driveRecord s.valve.failsafe s.liveHold s.valve.localHand false (u16 s.valve.command))

/-- VALVE_LOOP_CONTROL_PERIOD_EXPIRY (R86): Stages 1 to 7, the timer is restarted, and the change trigger is
evaluated at the control-period end. The operand says where the computation that answers the publication stands among
the publication, the read of the grant and the change trigger (R53, log 7). -/
def valvePeriodExpiry (order : GrantOrder) (s : State) : State :=
  if s.valve.periodTimer.isRunning then
    changeTrigger (computeBeforeEnd order (valveDrive (stagesFourToSix (publish order (stagesOneToThree s)))))
  else s

/-- VALVE_LOOP_CONTROL_PERIOD_EXPIRY (R86). -/
def execValveLoopControlPeriodExpiry (order : GrantOrder) (s : State) :
    Host.Outcome State Fault Refusal :=
  done (settle (valvePeriodExpiry order s))

end Sys2Proof.Machine
end

