-- ==== Sys2Proof/Machine/Dispatch.lean ====
section
/-! DEFINITION. The effect of each command on everything but the queue of commands: one arm per row of
spec/opcode_table.json. -/

namespace Sys2Proof.Machine

def exec (i : Instr) (s : State) : Host.Outcome State Fault Refusal :=
  match i with
  | .resetPinAssert => Sys2Proof.Machine.execResetPinAssert s
  | .resetPinRelease pins => Sys2Proof.Machine.execResetPinRelease pins s
  | .descriptorReadComplete bytes => Sys2Proof.Machine.execDescriptorReadComplete bytes s
  | .safeRecordTimerExpiry => Sys2Proof.Machine.execSafeRecordTimerExpiry s
  | .joinTimerExpiry order => Sys2Proof.Machine.execJoinTimerExpiry order s
  | .holdTimerExpiry => Sys2Proof.Machine.execHoldTimerExpiry s
  | .valveLoopControlPeriodExpiry order => Sys2Proof.Machine.execValveLoopControlPeriodExpiry order s
  | .headControlPeriodExpiry => Sys2Proof.Machine.execHeadControlPeriodExpiry s
  | .shareComputation => Sys2Proof.Machine.execShareComputation s
  | .ageTimerExpiry number => Sys2Proof.Machine.execAgeTimerExpiry number s
  | .takeStationReport => Sys2Proof.Machine.execTakeStationReport s
  | .takeAlarmFrame => Sys2Proof.Machine.execTakeAlarmFrame s
  | .limitBlock => Sys2Proof.Machine.execLimitBlock s
  | .limitCancel => Sys2Proof.Machine.execLimitCancel s
  | .shed order => Sys2Proof.Machine.execShed order s
  | .clearConditions => Sys2Proof.Machine.execClearConditions s
  | .hold => Sys2Proof.Machine.execHold s
  | .release => Sys2Proof.Machine.execRelease s
  | .forget => Sys2Proof.Machine.execForget s
  | .restart => Sys2Proof.Machine.execRestart s
  | .readView => Sys2Proof.Machine.execReadView s
  | .readCounters => Sys2Proof.Machine.execReadCounters s
  | .blockTimerExpiry => Sys2Proof.Machine.execBlockTimerExpiry s
  | .shedTimerExpiry => Sys2Proof.Machine.execShedTimerExpiry s
  | .reportIntervalExpiry => Sys2Proof.Machine.execReportIntervalExpiry s
  | .spacingTimerExpiry => Sys2Proof.Machine.execSpacingTimerExpiry s
  | .sampleRecord characters => Sys2Proof.Machine.execSampleRecord characters s
  | .sampleTimerExpiry => Sys2Proof.Machine.execSampleTimerExpiry s
  | .fieldHoldTimerExpiry field => Sys2Proof.Machine.execFieldHoldTimerExpiry field s
  | .rawLevelChange input level => Sys2Proof.Machine.execRawLevelChange input level s
  | .debounceTimerExpiry input => Sys2Proof.Machine.execDebounceTimerExpiry input s
  | .silenceTimerExpiry => Sys2Proof.Machine.execSilenceTimerExpiry s
  | .frameReceived group => Sys2Proof.Machine.execFrameReceived group s
  | .frameDiscarded group => Sys2Proof.Machine.execFrameDiscarded group s
  | .breakDetected fromOwnJam => Sys2Proof.Machine.execBreakDetected fromOwnJam s
  | .lineIdle => Sys2Proof.Machine.execLineIdle s
  | .startBitHeard => Sys2Proof.Machine.execStartBitHeard s
  | .attemptStart => Sys2Proof.Machine.execAttemptStart s
  | .collision => Sys2Proof.Machine.execCollision s
  | .jamEnd choice order => Sys2Proof.Machine.execJamEnd choice order s
  | .entrySent choice order => Sys2Proof.Machine.execEntrySent choice order s
  | .groupComplete group => Sys2Proof.Machine.execGroupComplete group s
  | .markerReceived character => Sys2Proof.Machine.execMarkerReceived character s
  | .sampleRecordBroken => Sys2Proof.Machine.execSampleRecordBroken s

end Sys2Proof.Machine
end

