-- ==== Sys2Proof/Safety.lean ====
section
/-! DEFINITION. What a safe station is, block by block, in the terms that statements use: the ranges and the
relations between fields that the rules state, and what an event leaves unchanged. -/

namespace Sys2Proof.Machine

/-! ### What an event leaves unchanged -/

/-- The blocks of the state. -/
inductive BlockName where
  | control | line | peers | reports | share | limit | valve | head | measure | command | condition
  | driveLane
  deriving DecidableEq, Repr

/-- The command queue and every block but the named ones stand in t as they stand in s. -/
def Unchanged (but : List BlockName) (s t : State) : Prop :=
  t.pending = s.pending
    ∧ (.control ∉ but → t.control = s.control)
    ∧ (.line ∉ but → t.line = s.line)
    ∧ (.peers ∉ but → t.peers = s.peers)
    ∧ (.reports ∉ but → t.reports = s.reports)
    ∧ (.share ∉ but → t.share = s.share)
    ∧ (.limit ∉ but → t.limit = s.limit)
    ∧ (.valve ∉ but → t.valve = s.valve)
    ∧ (.head ∉ but → t.head = s.head)
    ∧ (.measure ∉ but → t.measure = s.measure)
    ∧ (.command ∉ but → t.command = s.command)
    ∧ (.condition ∉ but → t.condition = s.condition)
    ∧ (.driveLane ∉ but → t.driveLane = s.driveLane)

/-- Of the Line Unit at most the Transmit Queue, the holdoff and REPLIES_LOST change: what an offer to the
queue may move (R157, R158). -/
def LineQuiet (s t : State) : Prop :=
  t.line.lineState = s.line.lineState
    ∧ t.line.receiver = s.line.receiver
    ∧ t.line.rxQueue = s.line.rxQueue
    ∧ t.line.sending = s.line.sending
    ∧ t.line.silenceTimer = s.line.silenceTimer
    ∧ t.line.isolated = s.line.isolated
    ∧ t.line.goodFrames = s.line.goodFrames
    ∧ t.line.correctedGroups = s.line.correctedGroups
    ∧ t.line.damagedFrames = s.line.damagedFrames
    ∧ t.line.rxOverruns = s.line.rxOverruns
    ∧ t.line.collisions = s.line.collisions
    ∧ t.line.abandoned = s.line.abandoned

/-- Of the Report Scheduler at most report-due and the two timers change: what queuing or displacing a
report may move (R42, R43). -/
def ReportsQuiet (s t : State) : Prop :=
  t.reports.sequence = s.reports.sequence
    ∧ t.reports.startCountdown = s.reports.startCountdown
    ∧ t.reports.snapshot = s.reports.snapshot

/-- Of the Condition Unit at most the named latches, each only from clear to set, and alarm-due change
(R143, R148). -/
def LatchesOnly (which : List Latch) (s t : State) : Prop :=
  (∀ l, l ∉ which → t.latched l = s.latched l)
    ∧ (∀ l, s.latched l = true → t.latched l = true)
    ∧ t.condition.alarmSequence = s.condition.alarmSequence

/-- t is what the reset that a RESTART brings makes of a station whose pins stand as in s: the state of a reset by
the pin but for the restart cause, the pin not being asserted, the straps sampled and the descriptor read begun (R167,
R168, R169; log 19 for the sampled levels, log 2, log 3 and log 23 for what no rule gives). -/
def Restarted (s t : State) : Prop :=
  t.control = { StationControl.atReset with
      pinAsserted := false
      restartCause := true
      strapPins := t.control.strapPins
      strapSamples := s.control.strapSamples + 1
      strapReading := readStraps t.control.strapPins
      memoryLane := [.select, .send 0x03#8, .send 0x00#8, .send 0x00#8] }
    ∧ t.line = { LineUnit.atReset with draws := t.line.draws }
    ∧ t.peers = .atReset ∧ t.reports = .atReset ∧ t.share = .atReset ∧ t.limit = .atReset
    ∧ t.valve = .atReset ∧ t.head = .atReset
    ∧ t.measure = .atReset (s.measure.inputs.mapEach (fun v => v.raw))
    ∧ t.command = .atReset ∧ t.condition = .atReset ∧ t.driveLane = [] ∧ t.pending = s.pending

/-- The setting of latch l in s displaces the reply of an admitted RESTART: the latch goes from clear to set and is
urgent, the mode is RUNNING or HOLD, the queue is full and holds neither an ALARM nor a waiting REPORT, and its newest
waiting REPLY is marked (R148, R157, R167). -/
def DisplacesRestart (l : Latch) (s : State) : Prop :=
  s.latched l = false ∧ s.urgent l = true ∧ s.speaking = true ∧ s.line.holdsAlarm = false ∧ 6 ≤ s.line.txCount
    ∧ s.line.waiting.any TxEntry.isReport = false
    ∧ ∃ older r younger, s.line.waiting = older ++ .reply r :: younger ∧ younger.any TxEntry.isReply = false
        ∧ r.restart = true

/-- t is what the setting of latch l, urgent and clear before, makes of the Transmit Queue of s in RUNNING and HOLD
(R148, R157): a waiting ALARM absorbs it; an ALARM that has started leaves alarm-due set; with no ALARM one joins a
queue with room, or displaces the waiting REPORT, or else the newest waiting REPLY. -/
def AlarmCalled (l : Latch) (s t : State) : Prop :=
  (s.line.absorbsAlarm = true → t.line = s.line ∧ t.reports = s.reports ∧ LatchesOnly [l] s t
      ∧ t.condition.alarmDue = s.condition.alarmDue)
    ∧ (s.line.holdsAlarm = true → s.line.absorbsAlarm = false → t.line = s.line ∧ t.reports = s.reports
        ∧ LatchesOnly [l] s t ∧ t.condition.alarmDue = true)
    ∧ (s.line.holdsAlarm = false → t.condition.alarmDue = s.condition.alarmDue
        ∧ (s.line.txCount < 6 → t.line.txEntries = s.line.txEntries ++ [.alarm none]
            ∧ t.line.repliesLost = s.line.repliesLost ∧ t.reports = s.reports ∧ LatchesOnly [l] s t)
        ∧ (6 ≤ s.line.txCount → s.line.waiting.any TxEntry.isReport = true →
            t.line.inFlight = s.line.inFlight
              ∧ t.line.waiting = s.line.waiting.filter (fun e => !e.isReport) ++ [.alarm none]
              ∧ t.line.repliesLost = s.line.repliesLost
              ∧ t.reports = { s.reports with reportDue := true } ∧ LatchesOnly [l] s t)
        ∧ (6 ≤ s.line.txCount → s.line.waiting.any TxEntry.isReport = false →
            ∀ older r younger, s.line.waiting = older ++ .reply r :: younger →
              younger.any TxEntry.isReply = false →
              t.line.inFlight = s.line.inFlight ∧ t.line.waiting = older ++ younger ++ [.alarm none]
                ∧ t.latched .replyLost = true
                ∧ t.line.repliesLost = min 65535 (s.line.repliesLost + 1) ∧ t.reports = s.reports))

/-- t is what the setting of latch l makes of s where it displaces no reply of a RESTART: the latch is set; a setting
that finds the latch set already moves nothing, one that is not urgent moves nothing else, an urgent one in JOINING sets
alarm-due, and in RUNNING and HOLD it calls for an ALARM (R143, R148, R157). -/
def AfterLatch (l : Latch) (s t : State) : Prop :=
  t.latched l = true
    ∧ (s.latched l = true → t = s)
    ∧ (s.urgent l = false → t.line = s.line ∧ t.reports = s.reports ∧ LatchesOnly [l] s t
        ∧ t.condition.alarmDue = s.condition.alarmDue)
    ∧ (s.control.mode = .joining → t.line = s.line ∧ t.reports = s.reports ∧ LatchesOnly [l] s t
        ∧ (s.latched l = false → s.urgent l = true → t.condition.alarmDue = true))
    ∧ (s.latched l = false → s.urgent l = true → s.speaking = true → AlarmCalled l s t)
    ∧ Unchanged [.line, .reports, .condition] s t ∧ LineQuiet s t ∧ ReportsQuiet s t
    ∧ LatchesOnly [l, .replyLost] s t

/-- t is what an event that ends in the setting of latch l makes of s: the reset of a RESTART whose reply the setting
displaces, and otherwise the latch set and what that calls for; a RESTART whose reply stays in the queue changes
nothing (R148, R157, R167). -/
def LatchSet (l : Latch) (s t : State) : Prop :=
  (DisplacesRestart l s → Restarted s t) ∧ (¬ DisplacesRestart l s → AfterLatch l s t)

/-! ### Commands -/

/-- The frame f of this kind stands at the front of the Receive Queue, before the others (R156). -/
abbrev AtFront (kind : Kind) (f : Frame) (rest : List Frame) (s : State) : Prop :=
  s.line.rxQueue = f :: rest ∧ f.kind = kind.code

/-- The state without the frame at the front of its Receive Queue (R156). -/
def State.withoutFront (s : State) (rest : List Frame) : State :=
  s.setLine { s.line with rxQueue := rest }

/-- The command goes on to the admission checks (R162). -/
abbrev GoesToChecks (kind : Kind) (f : Frame) (s : State) : Prop :=
  s.speaking = true ∧ f.source.toNat ≠ s.config.number
    ∧ ¬(f.destination = 255#8 ∧ kind ∈ [.readView, .readCounters, .forget, .restart])

/-- REPLIES_LOST is incremented (R157). -/
def State.oneReplyLost (s : State) : State :=
  s.setLine { s.line with repliesLost := min 65535 (s.line.repliesLost + 1) }

/-- A reply to the command f finds no room in s: it is addressed, the queue is full and no REPORT waits (R157, R165). -/
abbrev DropsReply (f : Frame) (s : State) : Prop :=
  f.destination ≠ 255#8 ∧ 6 ≤ s.line.txCount ∧ s.line.waiting.any TxEntry.isReport = false

/-- t is what the offer of the reply r to the command f makes of s (R157, R165). A broadcast command has no reply. An
addressed one's reply joins a queue that has room; in a full one it displaces the waiting REPORT; and where there is
none it is dropped, counted, and REPLY_LOST latched, with all that its setting calls for. -/
def Answered (f : Frame) (r : Reply) (s t : State) : Prop :=
  (f.destination = 255#8 → t = s)
    ∧ (f.destination ≠ 255#8 → s.line.txCount < 6 ∨ s.line.waiting.any TxEntry.isReport = true →
        Unchanged [.line, .reports] s t ∧ LineQuiet s t ∧ ReportsQuiet s t
          ∧ t.line.repliesLost = s.line.repliesLost)
    ∧ (f.destination ≠ 255#8 → s.line.txCount < 6 →
        t.line.txEntries = s.line.txEntries ++ [.reply r] ∧ t.reports = s.reports)
    ∧ (f.destination ≠ 255#8 → 6 ≤ s.line.txCount → s.line.waiting.any TxEntry.isReport = true →
        t.line.inFlight = s.line.inFlight
          ∧ t.line.waiting = s.line.waiting.filter (fun e => !e.isReport) ++ [.reply r]
          ∧ t.reports = { s.reports with reportDue := true })
    ∧ (DropsReply f s → LatchSet .replyLost s.oneReplyLost t)

/-- The reply that carries only its first group (R165, R180). -/
def shortReply (f : Frame) (outcome : ReplyOutcome) : Reply :=
  ⟨f.source, f.sequence, [byteGroup f.kind f.sequence outcome.code 0#8], false⟩

/-- The ten kinds of command with their events; the orders inside a SHED and a CLEAR_CONDITIONS are their operands
(spec/10, log 7). -/
def commandEvent (order : OfferOrder) : Kind → Option Instr
  | .limitBlock => some .limitBlock
  | .limitCancel => some .limitCancel
  | .shed => some (.shed order)
  | .clearConditions => some .clearConditions
  | .hold => some .hold
  | .release => some .release
  | .forget => some .forget
  | .restart => some .restart
  | .readView => some .readView
  | .readCounters => some .readCounters
  | .stationReport => none
  | .alarm => none
  | .reply => none

/-- The command f of this kind stands at the front of the Receive Queue of a station that admits it (R156, R162,
R163). -/
abbrev Admitted (kind : Kind) (f : Frame) (rest : List Frame) (s : State) : Prop :=
  AtFront kind f rest s ∧ GoesToChecks kind f s ∧ admission kind f s = .accepted

/-- COMMANDS_ACCEPTED is incremented (R164). -/
def State.acceptedOne (s : State) : State :=
  s.setCommand { s.command with accepted := countUp s.command.accepted }

/-! ### The Peer Table -/

/-- A report of a peer, not the own number and not a tool's, stands at the front and is well-formed (R9, R12,
R13). -/
abbrev ReportAtFront (f : Frame) (b : ReportBody) (rest : List Frame) (s : State) : Prop :=
  AtFront .stationReport f rest s ∧ s.active = true ∧ f.source.toNat ≠ s.config.number
    ∧ (1 ≤ f.source.toNat ∧ f.source.toNat ≤ 239) ∧ readReport f = some b

/-- The entry after the acceptance of a report into it, given the accepted-report count before (R17). -/
def EntryFrom (number : Nat) (membership : Membership) (count : Nat) (f : Frame) (b : ReportBody) : PeerEntry where
  number := number
  membership := membership
  freshness := .fresh
  age := 0
  ageTimer := .running 10
  lastSequence := f.sequence
  acceptedCount := min 65535 (count + 1)
  peerMode := b.mode
  isolated := b.isolated
  word := b.word
  part := b.part

/-- One change notice: in RUNNING and HOLD of a transfer station a trigger to be answered, otherwise dropped (R11,
R49, R50). -/
def State.noticed (s : State) (given : Bool) : State :=
  s.setShare { s.share with
    triggers := s.share.triggers + if given && s.speaking && s.isTransfer then 1 else 0 }

/-- The entry that gives way in a full table (R23). -/
abbrev IsVictim (entries : List PeerEntry) (v : PeerEntry) : Prop :=
  v ∈ entries
    ∧ ((v.freshness = .lost
          ∧ ∀ e ∈ entries, e.freshness = .lost → e.age < v.age ∨ (e.age = v.age ∧ v.number ≤ e.number))
        ∨ ((∀ e ∈ entries, e.freshness ≠ .lost) ∧ v.membership = .outside
          ∧ ∀ e ∈ entries, e.membership = .outside →
              e.age < v.age ∨ (e.age = v.age ∧ v.number ≤ e.number)))

/-! ### Reports and control periods -/

/-- The differences that call for a report (R40). -/
def Changed (reportDelta : Nat) : Snapshot → Snapshot → Prop
  | .transfer qr wide starved localHand shed isolated outcome word,
    .transfer qr' wide' starved' localHand' shed' isolated' outcome' word' =>
    reportDelta ≤ ((qr : Int) - (qr' : Int)).natAbs ∨ wide ≠ wide' ∨ starved ≠ starved'
      ∨ localHand ≠ localHand' ∨ shed ≠ shed' ∨ isolated ≠ isolated' ∨ outcome ≠ outcome' ∨ word ≠ word'
  | .plant offer isolated trip word, .plant offer' isolated' trip' word' =>
    reportDelta ≤ ((offer : Int) - (offer' : Int)).natAbs ∨ isolated ≠ isolated' ∨ trip ≠ trip' ∨ word ≠ word'
  | _, _ => True

/-- t is what the setting of report-due makes of s at a moment at which no waiting REPORT absorbs it: the report
is queued, with both timers started, when the spacing timer is stopped and the queue accepts it, and otherwise
report-due stays set (R42, R43). -/
def AfterReportDue (s t : State) : Prop :=
  Unchanged [.line, .reports] s t ∧ LineQuiet s t ∧ ReportsQuiet s t
    ∧ t.line.repliesLost = s.line.repliesLost
    ∧ (s.reports.spacingTimer.isRunning = false ∧ s.line.holdsReport = false ∧ s.line.txCount < 6 →
        t.reports.reportDue = false
          ∧ t.reports.intervalTimer = .running (10 * s.config.reportInterval)
          ∧ t.reports.spacingTimer = .running s.config.minSpacing
          ∧ t.line.txEntries = s.line.txEntries ++ [.report none])
    ∧ (s.reports.spacingTimer.isRunning = true ∨ s.line.holdsReport = true ∨ 6 ≤ s.line.txCount →
        t = s.setReports { s.reports with reportDue := true })

/-- The flags character of a drive record (R181). -/
def DriveFlags (flags : Byte) (failsafe hold localHand safe : Bool) : Prop :=
  flags.getLsbD 0 = failsafe ∧ flags.getLsbD 1 = hold ∧ flags.getLsbD 2 = localHand
    ∧ flags.getLsbD 3 = safe ∧ ∀ k, 4 ≤ k → flags.getLsbD k = false

/-- An eligible peer with its margin: TRANSFER, IN_SECTOR, FRESH, margin present (R112). -/
def Eligible (e : PeerEntry) (m : Int) : Prop :=
  ∃ p, e.part = .transfer p ∧ e.membership = .inSector ∧ e.freshness = .fresh ∧ p.margin = some m

/-- The entries that are counted: IN_SECTOR and FRESH or STALE (R11). -/
abbrev IsCounted (e : PeerEntry) : Prop :=
  e.membership = .inSector ∧ (e.freshness = .fresh ∨ e.freshness = .stale)

/-! ### Departures -/

/-- e is the entry the arbiter chooses of some waiting ones, and others remain: an ALARM before every REPLY, a REPLY
before every REPORT, and of several REPLYs the oldest (R158). -/
def IsNext (waiting : List TxEntry) (e : TxEntry) (others : List TxEntry) : Prop :=
  ∃ before after, waiting = before ++ e :: after ∧ others = before ++ after
    ∧ (e.isAlarm = true
        ∨ (e.isReply = true ∧ (∀ x ∈ waiting, x.isAlarm = false) ∧ ∀ x ∈ before, x.isReply = false)
        ∨ (e.isReport = true ∧ ∀ x ∈ waiting, x.isReport = true))

/-- The queue u after an entry has departed from a queue whose other entries are waiting: the arbiter chooses, either
from the waiting entries alone before the offers join, or from all of them after; with nothing to choose no entry
is in flight (R158). -/
def ChosenAfter (choice : ChoiceOrder) (waiting offers : List TxEntry) (u : LineUnit) : Prop :=
  u.attempts = 0 ∧ u.window = 8 ∧ (∀ h ∈ u.holdoff, h < 8) ∧ u.holdoff.isSome = u.inFlight.isSome
    ∧ (waiting ++ offers = [] → u.inFlight = none ∧ u.waiting = [])
    ∧ (waiting ++ offers ≠ [] → choice ≠ .choiceFirst →
        ∃ e others, IsNext (waiting ++ offers) e others ∧ u.inFlight = some e ∧ u.waiting = others)
    ∧ (waiting ≠ [] → choice = .choiceFirst →
        ∃ e others, IsNext waiting e others ∧ u.inFlight = some e ∧ u.waiting = others ++ offers)
    ∧ (waiting = [] → choice = .choiceFirst → u.inFlight = offers.head? ∧ u.waiting = offers.tail)

/-- t is what the departure of the in-flight entry e, not the reply of a RESTART, makes of s: a report joins if
report-due is set, the spacing timer is stopped and no other REPORT waits (R42, R44), an ALARM joins if e is one and
alarm-due is set (R149) or if the departure sets an urgent TX_ABANDON and no ALARM waits (R148, R160), and the arbiter
chooses (R158). Seven entries have no place: the report then waits on. -/
def Departed (choice : ChoiceOrder) (order : OfferOrder) (urgent : Bool) (e : TxEntry) (s t : State) : Prop :=
  let reportJoins := s.reports.reportDue = true ∧ s.reports.spacingTimer.isRunning = false
    ∧ s.line.waiting.any TxEntry.isReport = false
  let dueAlarm := e.isAlarm = true ∧ s.condition.alarmDue = true
  let alarmJoins := dueAlarm ∨ (urgent = true ∧ s.line.waiting.any TxEntry.isAlarm = false)
  let offers := ∀ offers : List TxEntry,
    (alarmJoins → reportJoins →
        offers = if order = .alarmFirst then [.alarm none, .report none] else [.report none, .alarm none]) →
    (alarmJoins → ¬ reportJoins → offers = [.alarm none]) →
    (¬ alarmJoins → reportJoins → offers = [.report none]) →
    (¬ alarmJoins → ¬ reportJoins → offers = []) →
    s.line.waiting.length + offers.length ≤ 6 → ChosenAfter choice s.line.waiting offers t.line
  Unchanged [.line, .reports, .condition] s t ∧ LineQuiet s t ∧ ReportsQuiet s t
    ∧ t.line.repliesLost = s.line.repliesLost
    ∧ t.condition = { s.condition with alarmDue := t.condition.alarmDue }
    ∧ (dueAlarm → t.condition.alarmDue = false)
    ∧ (¬ dueAlarm → t.condition.alarmDue = s.condition.alarmDue)
    ∧ offers
    ∧ (¬ reportJoins → t.reports = s.reports)
    ∧ (reportJoins → (alarmJoins → s.line.waiting.length ≠ 5) → t.reports = { s.reports with
          reportDue := false
          intervalTimer := .running (10 * s.config.reportInterval)
          spacingTimer := .running s.config.minSpacing })
    ∧ (reportJoins → alarmJoins → s.line.waiting.length = 5 →
        t.reports.reportDue = true ∧ t.line.holdsReport = false ∧ t.line.holdsAlarm = true)

/-- The codes that name a function fitting the role, each with its function; every other code is treated as NONE (R135,
R176). -/
def fittingFunctions : Role → List (Byte × InputFunction)
  | .transfer => [(0#8, .none), (1#8, .localHand), (2#8, .isolationClosed), (4#8, .maintLock)]
  | .plant => [(0#8, .none), (3#8, .plantTrip), (4#8, .maintLock)]

/-! ### Receiving -/

/-- The groups heard so far of the frame in progress when this group completes, and whether it was corrected
(R153). -/
def GathersTo (s : State) (raw : RawGroup) (corrected : Bool) (groups : List Group) : Prop :=
  ∃ before g, s.line.receiver = .gathering before ∧ groups = before ++ [g]
    ∧ decodeGroup raw = if corrected = true then .corrected g else .clean g

/-- The Line Unit with CORRECTED_GROUPS incremented for a corrected group (R153). -/
def LineUnit.corrected (u : LineUnit) (corrected : Bool) : LineUnit :=
  { u with
    correctedGroups := if corrected = true then min 65535 (u.correctedGroups + 1) else u.correctedGroups }

/-- The Measurement Unit of s with the change of input i taken up: the debounced state is the raw state, the change latch
is set and the debounce timer stopped (R134). -/
def State.changeTaken (i : InputName) (s : State) : State :=
  let v := s.measure.inputs.get i
  s.setMeasure { s.measure with
    inputs := s.measure.inputs.set i
      { v with
        active := decide (v.raw = activeLevel s.config i)
        changed := true
        debounceTimer := .stopped } }

/-- t is what the recognition of a change of input i makes of s (R134): the change is taken up, INPUT_CHANGE is latched if
the change mask enables the input, and a plant's offer is recomputed; unless that latch displaces the reply of a
RESTART. -/
def Recognised (i : InputName) (s t : State) : Prop :=
  let seen := s.changeTaken i
  let enabled := s.config.changeMask.getLsbD (InputName.bit i) = true
  (enabled → DisplacesRestart .inputChange seen → Restarted s t)
    ∧ (¬ (enabled ∧ DisplacesRestart .inputChange seen) →
        ∃ m, (enabled → AfterLatch .inputChange seen m) ∧ (¬ enabled → m = seen)
          ∧ (s.isPlant = false → t = m)
          ∧ (s.isPlant = true →
              t = m.setHead { s.head with offer := t.head.offer, offerBasis := t.head.offerBasis }
                ∧ (m.measure.functionActive .plantTrip = true ∨ s.reading .qavail = none →
                    t.head.offer = 0 ∧ t.head.offerBasis = none)
                ∧ (m.measure.functionActive .plantTrip = false → ∀ q, s.reading .qavail = some q →
                    t.head.offer = q * (1000 - s.config.reserve) / 1000 ∧ t.head.offerBasis = some q)))

/-- Bit k of a group on the line is inverted: 0 to 31 the data bits d0 to d31, 32 to 38 the check bits c0 to c6, 39
the eighth bit of the check character (R175). -/
def RawGroup.hit (k : Nat) (raw : RawGroup) : RawGroup :=
  if k < 32 then
    let g := byteGroup raw.c1 raw.c2 raw.c3 raw.c4 ^^^ (1#32 <<< k)
    { raw with c1 := Group.c1 g, c2 := Group.c2 g, c3 := Group.c3 g, c4 := Group.c4 g }
  else { raw with check := raw.check ^^^ (1#8 <<< (k - 32)) }

/-- The bit at a position from 1 to 38 of the codeword: the check bits at the powers of two, the data bits at the
others in their order (R175, steps 1 and 2). -/
def codewordBit (g : Group) (check : Byte) (position : Nat) : Bool :=
  if position = 1 then check.getLsbD 0
  else if position = 2 then check.getLsbD 1
  else if position = 4 then check.getLsbD 2
  else if position = 8 then check.getLsbD 3
  else if position = 16 then check.getLsbD 4
  else if position = 32 then check.getLsbD 5
  else if position < 4 then g.getLsbD (position - 3)
  else if position < 8 then g.getLsbD (position - 4)
  else if position < 16 then g.getLsbD (position - 5)
  else if position < 32 then g.getLsbD (position - 6)
  else g.getLsbD (position - 7)

/-- How many of the positions whose number has bit i set hold a one (R175, step 2). -/
def onesAt (g : Group) (check : Byte) (i : Nat) : Nat :=
  ((List.range' 1 38).filter (fun p => p.testBit i && codewordBit g check p)).length

/-- How many of the 38 positions and c6 hold a one (R175, step 3). -/
def onesOverall (g : Group) (check : Byte) : Nat :=
  ((List.range' 1 38).filter (fun p => codewordBit g check p)).length + if check.getLsbD 6 = true then 1 else 0

/-! ### Several steps -/

/-- The events at a receiver while a frame is on the line: the marker, and the completion of each group, the last of
which completes the frame (R153). -/
def frameEvents (f : Frame) : List Instr :=
  .markerReceived 0x3C#8
    :: (f.groups.dropLast.map (fun g => Instr.groupComplete (sentGroup g))
      ++ [.frameReceived (sentGroup (f.groups.getLastD 0#32))])

/-- The state after some steps, where each answers a next state. -/
def State.after (s : State) : Nat → State
  | 0 => s
  | n + 1 =>
    match step s with
    | .next t => t.after n
    | .fault _ => s
    | .refused _ => s

/-- The twelve counters (R3). -/
def State.counters (s : State) : List Nat :=
  [ s.line.goodFrames, s.line.correctedGroups, s.line.damagedFrames, s.line.rxOverruns, s.line.collisions,
    s.line.abandoned, s.line.repliesLost, s.peers.duplicates, s.peers.outOfOrder, s.peers.tableRefusals,
    s.command.accepted, s.command.refused ]

/-! ### Station Control -/

/-- Every tunable of the descriptor between the ends of its range (R171, R85, R107, R123, R31, R47, R151). -/
def Descriptor.tunables (d : Descriptor) : List (Nat × Nat × Nat) :=
  [ (0, d.ownClass, 3), (0, d.bitRate, 3), (2, d.staleTime, 60), (2, d.lostTime, 600),
    (2, d.joinTime, 60), (2, d.silenceTime, 120), (1, d.reportInterval, 30), (2, d.minSpacing, 50),
    (5, d.controlPeriod, 50), (2, d.sampleTimeout, 100), (1, d.holdTime, 120), (0, d.debounce, 25),
    (1, d.filterA, 16), (0, d.dTmin, 2000), (0, d.dThys, 500), (100, d.lFloor, 1000),
    (1, d.lTight, 200), (1, d.lRelax, 200), (1, d.kv, 255), (1, d.rMax, 2000), (5000, d.vWide, 10000),
    (0, d.failPosition, 10000), (0, d.softLo, 10000), (0, d.softHi, 10000), (0, d.gFloor, 20000),
    (0, d.gFallback, 20000), (0, d.qDef, 20000), (0, d.dpReq, 10000), (1, d.reportDelta, 2000),
    (0, d.starveMargin, 2000), (1, d.starveCount, 30), (0, d.hMin, 10000), (0, d.hMax, 10000),
    (0, d.hStart, 10000), (0, d.hIsolated, 10000), (1, d.hStep, 500), (1, d.kh, 64), (0, d.reserve, 500) ]

/-- The tunables that only their own range moves, each with the ends of that range: all but lost_time and Hmax (R171). -/
def ownRangeTunables : List (Nat × (Descriptor → Nat) × Nat) :=
  [ (0, (·.ownClass), 3), (0, (·.bitRate), 3), (2, (·.staleTime), 60), (2, (·.joinTime), 60),
    (2, (·.silenceTime), 120), (1, (·.reportInterval), 30), (2, (·.minSpacing), 50), (5, (·.controlPeriod), 50),
    (2, (·.sampleTimeout), 100), (1, (·.holdTime), 120), (0, (·.debounce), 25), (1, (·.filterA), 16),
    (0, (·.dTmin), 2000), (0, (·.dThys), 500), (100, (·.lFloor), 1000), (1, (·.lTight), 200), (1, (·.lRelax), 200),
    (1, (·.kv), 255), (1, (·.rMax), 2000), (5000, (·.vWide), 10000), (0, (·.failPosition), 10000),
    (0, (·.softLo), 10000), (0, (·.softHi), 10000), (0, (·.gFloor), 20000), (0, (·.gFallback), 20000),
    (0, (·.qDef), 20000), (0, (·.dpReq), 10000), (1, (·.reportDelta), 2000), (0, (·.starveMargin), 2000),
    (1, (·.starveCount), 30), (0, (·.hMin), 10000), (0, (·.hStart), 10000), (0, (·.hIsolated), 10000),
    (1, (·.hStep), 500), (1, (·.kh), 64), (0, (·.reserve), 500) ]

/-- A value lies between the ends of its range. -/
abbrev InRange (t : Nat × Nat × Nat) : Prop := t.1 ≤ t.2.1 ∧ t.2.1 ≤ t.2.2

/-- A sector range lies within 1 to 239, and a used one is not empty (R10, R171). -/
abbrev SectorOk (r : SectorRange) : Prop :=
  (1 ≤ r.base ∧ r.base ≤ 239) ∧ (1 ≤ r.limit ∧ r.limit ≤ 239) ∧ (r.used = true → r.base ≤ r.limit)

/-- The loaded descriptor's values lie in their ranges and the two adjustments between fields hold (R170,
R171). -/
abbrev DescriptorOk (d : Descriptor) : Prop :=
  (1 ≤ d.number ∧ d.number ≤ 239) ∧ (∀ t ∈ d.tunables, InRange t) ∧ (∀ r ∈ d.sectors, SectorOk r)
    ∧ d.staleTime < d.lostTime ∧ d.hMin ≤ d.hMax

/-- The drive band lies in the drive range, and the fail position or H_start and H_isolated lie in the band
(R172). -/
abbrev BandOk (d : Descriptor) (b : DriveBand) : Prop :=
  b.lo ≤ b.hi ∧ b.hi ≤ 10000
    ∧ (d.role = .transfer → b.lo ≤ d.failPosition ∧ d.failPosition ≤ b.hi)
    ∧ (d.role = .plant →
        d.hMin ≤ b.lo ∧ b.hi ≤ d.hMax ∧ (b.lo ≤ d.hStart ∧ d.hStart ≤ b.hi)
          ∧ (b.lo ≤ d.hIsolated ∧ d.hIsolated ≤ b.hi))

/-- The configuration is present exactly in JOINING, RUNNING and HOLD, and is then in range (R168, R170 to
R173). -/
def ConfigOk (s : State) : Prop :=
  s.control.descriptor.isSome = s.active ∧ s.control.driveBand.isSome = s.active
    ∧ (s.active = true → DescriptorOk s.config ∧ BandOk s.config s.band)

/-- Each mode has its timers and no others (R86, R110, R138 to R141, R168 to R170). The model's own: the strap reading
before a sampling (log 2), restart-due at rest (log 5), the cause cleared in UNCONFIGURED (log 22), the memory lane (log
23). -/
def ModeOk (s : State) : Prop :=
  (s.control.joinTimer.isRunning = decide (s.control.mode = .joining))
    ∧ (s.control.holdTimer.isRunning = decide (s.control.mode = .hold))
    ∧ (s.control.safeTimer.isRunning = decide (s.control.mode = .unconfigured))
    ∧ (s.control.pinAsserted = true → s.control.mode = .starting ∧ s.control.restartCause = false)
    ∧ s.control.strapReading.code ≤ 7
    ∧ (s.control.memoryLane =
        if s.control.pinAsserted = true then []
        else [.select, .send 0x03#8, .send 0x00#8, .send 0x00#8]
          ++ if s.control.mode = .starting then [] else [.read 106, .release])
    ∧ (s.control.restartCause = true → s.control.mode = .starting)
    ∧ s.valve.periodTimer.isRunning = s.isTransfer
    ∧ s.head.periodTimer.isRunning = s.isPlant
    ∧ s.command.restartDue = false

/-! ### Line Unit -/

/-- The groups gathered so far belong to a frame that is not complete (R153, R154). -/
def GroupsOk : List Group → Prop
  | h1 :: h2 :: body => invalidHeader h1 h2 = false ∧ body.length < (Group.c1 h2).toNat
  | _ => True

/-- A frame in progress is gathered while the line is BUSY (R152, R153). -/
def ReceiverOk (l : LineState) : Receiver → Prop
  | .gathering groups => l = .busy ∧ GroupsOk groups
  | .testing => True
  | .skipping => True

/-- The two queues keep their bounds and their kinds (R151, R156, R157). -/
def QueuesOk (s : State) : Prop :=
  s.line.rxQueue.length ≤ 8 ∧ s.line.txCount ≤ 6
    ∧ s.line.txEntries.countP TxEntry.isReport ≤ 1
    ∧ s.line.txEntries.countP TxEntry.isAlarm ≤ 1
    ∧ (s.line.inFlight = none → s.line.waiting = [])
    ∧ (∀ e ∈ s.line.waiting, e.started = false)
    ∧ (s.active = false → s.line.rxQueue = [])
    ∧ (s.speaking = false → s.line.txEntries = [])
    ∧ (s.condition.alarmDue = true → s.speaking = true → s.line.holdsAlarm = true)

/-- The in-flight entry and the line agree (R151, R158 to R160). The model's own: the attempt count, W and h with nothing
in flight (log 8), the characters kept in `sending` (log 23). -/
def AttemptOk (s : State) : Prop :=
  s.line.attempts ≤ 8 ∧ (s.line.attempts = 8 → s.line.lineState = .jam)
    ∧ s.line.window ∈ [8, 16, 32, 64, 128]
    ∧ (s.line.holdoff.isSome = s.line.inFlight.isSome)
    ∧ (∀ h ∈ s.line.holdoff, h < s.line.window)
    ∧ (s.line.lineState = .ownTransmit ∨ s.line.lineState = .jam → s.line.inFlight.isSome = true)
    ∧ (s.line.lineState = .ownTransmit ↔ s.line.sending ≠ [])
    ∧ (s.line.lineState = .idle → s.line.receiver = .testing)
    ∧ ReceiverOk s.line.lineState s.line.receiver
    ∧ (s.active = false → s.line.lineState = .busy ∧ s.line.receiver = .skipping)
    ∧ (s.line.silenceTimer.isRunning = (s.active && !s.line.isolated))
    ∧ (s.active = false → s.line.isolated = false)

/-! ### Peer Table -/

/-- A role part lies in its ranges (R7, R8). -/
def PartOk : RolePart → Prop
  | .transfer t =>
    t.qr ≤ 20000 ∧ t.cls ≤ 3 ∧ t.grant ≤ 20000 ∧ t.valve ≤ 10000
      ∧ (∀ m ∈ t.margin, -3000 ≤ m ∧ m ≤ 3000)
  | .plant p =>
    p.offer ≤ 20000 ∧ p.head ≤ 10000 ∧ (∀ q ∈ p.flow, q ≤ 20000)
      ∧ (∀ n ∈ p.critical, 1 ≤ n ∧ n ≤ 239)
      ∧ (∀ m ∈ p.criticalMargin, -3000 ≤ m ∧ m ≤ 3000)

/-- The freshness that an age has (R19). -/
def freshnessOfAge (d : Descriptor) (age : Nat) : Freshness :=
  if age < d.staleTime then .fresh else if age < d.lostTime then .stale else .lost

/-- An entry as R5, R6, R10, R18 and R19 say it is. -/
def EntryOk (d : Descriptor) (e : PeerEntry) : Prop :=
  (1 ≤ e.number ∧ e.number ≤ 239) ∧ e.number ≠ d.number
    ∧ e.membership = membershipOf d e.number
    ∧ e.age ≤ 65535 ∧ e.ageTimer.isRunning = decide (e.age < 65535)
    ∧ e.freshness = freshnessOfAge d e.age
    ∧ (1 ≤ e.acceptedCount ∧ e.acceptedCount ≤ 65535)
    ∧ PartOk e.part

/-- The Peer Table keeps its order and its bound (R5), and is empty before JOINING (R29). -/
def TableOk (s : State) : Prop :=
  s.peers.entries.length ≤ 48
    ∧ s.peers.entries.Pairwise (fun a b => a.number < b.number)
    ∧ (∀ e ∈ s.peers.entries, EntryOk s.config e)
    ∧ (s.active = false → s.peers.entries = [])

/-! ### Limit Unit -/

/-- A block lies in its ranges (R70). -/
abbrev BlockOk (b : Block) : Prop := b.limit ≤ 20000 ∧ 1 ≤ b.duration ∧ b.duration ≤ 65535

/-- The active block runs with seconds to go, or is a CHAIN block that is HELD (R74, R76). -/
def ActiveOk : ActiveBlock → Prop
  | .none => True
  | .running b remaining => BlockOk b ∧ 1 ≤ remaining ∧ remaining ≤ b.duration
  | .held b => BlockOk b ∧ b.mode = .chain

/-- A shed in force applies to the own class and has seconds to go (R79, R80). -/
def ShedOk (ownClass : Nat) : ShedState → Prop
  | .off => True
  | .inForce threshold remaining =>
    threshold ≤ ownClass ∧ threshold ≤ 3 ∧ 1 ≤ remaining ∧ remaining ≤ 3600

/-- Whether the active block is RUNNING. -/
def ActiveBlock.isRunning : ActiveBlock → Bool
  | .running _ _ => true
  | .none => false
  | .held _ => false

/-- The Limit Unit as R69, R73, R74 and R79 say it is. -/
def LimitOk (s : State) : Prop :=
  ActiveOk s.limit.active
    ∧ (∀ b ∈ s.limit.pendingBlock, BlockOk b ∧ s.limit.active.isRunning = true)
    ∧ s.limit.blockTimer.isRunning = s.limit.active.isRunning
    ∧ s.limit.shedTimer.isRunning = s.limit.shedInForce
    ∧ ShedOk s.config.ownClass s.limit.shed
    ∧ (s.speaking = false ∨ s.isPlant = true → s.limit = .atReset)

/-! ### Measurement Unit -/

/-- A field as R122, R125 and R126 say it is. -/
def FieldOk (n : FieldName) (f : Field) : Prop :=
  (f.value.isSome = decide (f.state ≠ .absent))
    ∧ f.holdTimer.isRunning = decide (f.state = .held)
    ∧ (∀ v ∈ f.value, v ≤ FieldName.top n)

/-- An input while it is watched: its debounce timer runs exactly while its raw state differs from its
debounced state (R133). -/
def InputOk (d : Descriptor) (i : InputName) (v : Input) : Prop :=
  v.debounceTimer.isRunning = (rawActive d i v.raw != v.active)

/-- The Measurement Unit as R122, R132, R133 and R135 say it is. The model's own: the input functions before JOINING
(log 2). -/
def MeasureOk (s : State) : Prop :=
  (∀ n, FieldOk n (s.measure.fields.get n))
    ∧ (s.measure.dpf.isSome = decide (s.measure.fields.dp.state ≠ .absent))
    ∧ (∀ p ∈ s.measure.dpf, p ≤ 10000)
    ∧ (∀ n, n ∉ fieldSet s.config.role → s.measure.fields.get n = .atReset)
    ∧ (s.active = true → ∀ i, InputOk s.config i (s.measure.inputs.get i)
        ∧ functionFits s.config.role (s.measure.functions.get i) = true)
    ∧ (s.active = false → s.measure = .atReset (s.measure.inputs.mapEach (fun v => v.raw)))

/-! ### Share Engine, Valve Loop, Head Reset Unit -/

/-- The grant does not exceed the request it was computed from (R61), and the engine rests at its reset
values outside RUNNING and HOLD of a transfer station (R47, R50). The model's own: the count of triggers (log 4). -/
def ShareOk (s : State) : Prop :=
  s.share.record.grant ≤ s.share.record.requestUsed ∧ s.share.record.requestUsed ≤ 20000
    ∧ (s.speaking = false ∨ s.isPlant = true → s.share = .atReset)

/-- The Valve Loop of a transfer station: L in its range (R89), Qt at most Qr at most Qreq (R92), V in the
effective band (R97), the starve count (R100), the margin (R101). -/
def ValveActive (s : State) : Prop :=
  (s.config.lFloor ≤ s.valve.limiter ∧ s.valve.limiter ≤ 1000)
    ∧ (s.valve.qt ≤ s.valve.qr ∧ s.valve.qr ≤ s.valve.qreq ∧ s.valve.qreq ≤ 20000)
    ∧ (s.band.lo ≤ s.valve.command ∧ s.valve.command ≤ s.band.hi)
    ∧ s.valve.starve ≤ s.config.starveCount
    ∧ s.valve.starved = decide (s.valve.starve = s.config.starveCount)
    ∧ (∀ m ∈ s.valve.margin, -3000 ≤ m ∧ m ≤ 3000)
    ∧ (∀ dt ∈ s.valve.lastDt, -3000 ≤ dt ∧ dt ≤ 3000)

/-- The Valve Loop acts in a transfer station and holds its reset values in any other (R84), V at the model's 0 (log 2). -/
def ValveOk (s : State) : Prop :=
  (s.isTransfer = true → ValveActive s) ∧ (s.isTransfer = false → s.valve = .atReset)

/-- The Head Reset Unit of a plant station: H in the drive band (R118), the critical station and its margin
present together and in range (R106, R112), the movement (R106), the offer (R108), H in JOINING (R113). -/
def HeadActive (s : State) : Prop :=
  (s.band.lo ≤ s.head.setpoint ∧ s.head.setpoint ≤ s.band.hi)
    ∧ s.head.critical.isSome = s.head.criticalMargin.isSome
    ∧ (∀ n ∈ s.head.critical, 1 ≤ n ∧ n ≤ 239)
    ∧ (∀ m ∈ s.head.criticalMargin, -3000 ≤ m ∧ m ≤ 3000)
    ∧ (-500 ≤ s.head.lastMovement ∧ s.head.lastMovement ≤ 500)
    ∧ s.head.offer ≤ 20000
    ∧ s.head.starvedEligible ≤ s.head.eligible ∧ s.head.eligible ≤ 48
    ∧ (s.control.mode = .joining → s.head.setpoint = s.config.hStart)

/-- The Head Reset Unit acts in a plant station and holds its reset values in any other (R106), H at the model's 0
(log 2). -/
def HeadOk (s : State) : Prop :=
  (s.isPlant = true → HeadActive s) ∧ (s.isPlant = false → s.head = .atReset)

/-! ### Counters and the whole station -/

/-- Every counter is a count from 0 to 65535 (R3, R160). -/
def CountersOk (s : State) : Prop :=
  s.line.goodFrames ≤ 65535 ∧ s.line.correctedGroups ≤ 65535 ∧ s.line.damagedFrames ≤ 65535
    ∧ s.line.rxOverruns ≤ 65535 ∧ s.line.collisions ≤ 65535 ∧ s.line.abandoned ≤ 65535
    ∧ s.line.repliesLost ≤ 65535 ∧ s.peers.duplicates ≤ 65535 ∧ s.peers.outOfOrder ≤ 65535
    ∧ s.peers.tableRefusals ≤ 65535 ∧ s.command.accepted ≤ 65535 ∧ s.command.refused ≤ 65535

/-- The Report Scheduler at rest outside RUNNING and HOLD, and its countdown (R31, R45). -/
def ReportsOk (s : State) : Prop :=
  s.reports.startCountdown ≤ 3 ∧ (s.speaking = false → s.reports = .atReset)

/-- The whole station at rest between two events: as the rules say it is, and in the clauses marked so above as the model
keeps it (logs 2, 4, 5, 8, 22, 23). -/
def StationOk (s : State) : Prop :=
  ConfigOk s ∧ ModeOk s ∧ QueuesOk s ∧ AttemptOk s ∧ TableOk s ∧ LimitOk s ∧ MeasureOk s ∧ ShareOk s
    ∧ ValveOk s ∧ HeadOk s ∧ CountersOk s ∧ ReportsOk s

end Sys2Proof.Machine
end

