-- ==== Sys2Proof/Certificates/Slice0/Obligations.lean ====
section
/-! DEFINITION. The statements about the GC240, from the numbered rules of the spec. Each says what an event does and
what it leaves unchanged; StationOk (Safety.lean) is the invariant that statements take as a premise where they
could fail only in states that no run reaches, and it is a statement of its own that every step keeps it. -/

open Sys2Proof Sys2Proof.Machine

/-! ### The machine -/

/-- One step takes the command at the front of the queue and is its execution with the rest of the queue; with an
empty queue the station idles (log 11: idling is the model's choice). -/
def Obligations.StepRunsFrontCommand : Prop :=
  (∀ (c : Instr) (s : State), step { s with pending := c :: s.pending } = exec c s)
    ∧ ∀ s : State, s.pending = [] → step s = .next s

/-- Every event completes, whatever the state, and none touches the queue of commands: no event of the spec stops
the station. That an event given where it cannot occur completes, changing nothing, is the model's choice (log 1). -/
def Obligations.EveryEventCompletes : Prop :=
  ∀ (c : Instr) (s : State), ∃ t, exec c s = .next t ∧ t.pending = s.pending

/-- The station right after power-up meets `StationOk`, the invariant. Some of its clauses are the model's, not the
rules': V and H where their unit does not act, the strap reading and the input functions before start-up (log 2), the count
of triggers (log 4), restart-due (log 5), the attempt count, W and h with nothing in flight (log 8), the restart cause in
UNCONFIGURED (log 22), the kept memory lane and `sending` (log 23). -/
def Obligations.PowerUpIsSafe : Prop := StationOk State.reset

/-- Every step keeps the invariant `StationOk`, block by block, from every state that meets it and for every queue of
commands. Most of its clauses follow the rules. Some are the model's: V of a plant station and H of a transfer station at 0,
the strap reading and the input functions before start-up (log 2), the count of triggers (log 4), restart-due false (log
5), h absent and the attempt count and W at rest with nothing in flight (log 8), the restart cause in UNCONFIGURED (log 22),
the kept memory lane and `sending` (log 23). -/
def Obligations.StepsKeepStationSafe : Prop :=
  ∀ s t : State, StationOk s → step s = .next t → StationOk t

/-! ### Resets and start-up -/

/-- RESET_PIN_ASSERT, from any state: every block takes its reset values, queues and the Peer Table are empty, the
configuration is gone, READY and ALARM are low; the pins' levels outlive it (R168, R29, R31, R48, R69, R84, R106, R122,
R138, R143, R151, R162). What no rule gives is the model's: V and H at 0, the strap reading and the input functions (log
2), the counts of draws and of samplings that go on (log 3, log 19), the emptied drive and memory lanes (log 23). -/
def Obligations.ResetPinReturnsToReset : Prop :=
  ∀ s : State, ∃ t, exec .resetPinAssert s = .next t
    ∧ t.control = { StationControl.atReset with
        strapPins := s.control.strapPins
        strapSamples := s.control.strapSamples }
    ∧ t.control.mode = .starting ∧ t.control.pinAsserted = true ∧ t.control.restartCause = false
    ∧ t.control.descriptor = none ∧ t.control.driveBand = none
    ∧ t.line = { LineUnit.atReset with draws := s.line.draws }
    ∧ t.line.rxQueue = [] ∧ t.line.txEntries = [] ∧ t.line.lineState = .busy ∧ t.peers.entries = []
    ∧ t.peers = .atReset ∧ t.reports = .atReset ∧ t.share = .atReset ∧ t.limit = .atReset
    ∧ t.valve = .atReset ∧ t.head = .atReset
    ∧ t.measure = .atReset (s.measure.inputs.mapEach (fun v => v.raw))
    ∧ t.command = .atReset ∧ t.condition = .atReset ∧ t.driveLane = [] ∧ t.pending = s.pending
    ∧ t.readyLine = false ∧ t.alarmLine = false

/-- RESET_PIN_RELEASE: STARTING is entered with the restart cause clear, the four straps sampled once, BAND2 the
most significant bit of the code and the end TOP when BAND_END is low, and the descriptor read begun on the memory lane:
select, the instruction 03H, the address 0 (R168, R169). That with the pin not asserted nothing changes is the model's
(log 1). -/
def Obligations.PinReleaseSamplesStraps : Prop :=
  ∀ (pins : StrapPins) (s : State), StationOk s →
    (s.control.pinAsserted = true →
      exec (.resetPinRelease pins) s = .next (s.setControl
        { s.control with
          mode := .starting
          pinAsserted := false
          restartCause := false
          strapPins := pins
          strapReading :=
            ⟨(if pins.band2 = .high then 4 else 0) + (if pins.band1 = .high then 2 else 0)
                + (if pins.band0 = .high then 1 else 0),
              if pins.bandEnd = .low then .top else .bottom⟩
          memoryLane := [.select, .send 0x03#8, .send 0x00#8, .send 0x00#8] }))
    ∧ (s.control.pinAsserted = false → exec (.resetPinRelease pins) s = .next s)

/-- DESCRIPTOR_READ_COMPLETE with an invalid descriptor, one whose signature, format version, station number or role
code is not as R170 asks: the 106 bytes are read and the memory released (R169), and STARTING ends in UNCONFIGURED with
one SAFE drive record sent, ALARM high and READY low; nothing of the descriptor is kept (R170). The FAILSAFE flag of the
record is a free value (log 28), and the clearing of the restart cause is the model's (log 22). -/
def Obligations.InvalidDescriptorEndsUnconfigured : Prop :=
  (∀ bytes : List Byte,
    (judgeDescriptor bytes).isSome = true ↔
      bytes.take 4 = [0x6B#8, 0x47#8, 0x24#8, 0x0D#8] ∧ fieldAt bytes 4 = 1
        ∧ (1 ≤ fieldAt bytes 5 ∧ fieldAt bytes 5 ≤ 239) ∧ (fieldAt bytes 6 = 1 ∨ fieldAt bytes 6 = 2))
  ∧ ∀ (bytes : List Byte) (s : State), StationOk s → s.readInProgress = true → judgeDescriptor bytes = none →
    ∃ t, ∃ failsafe : BitVec 1, exec (.descriptorReadComplete bytes) s = .next t
      ∧ t.control = { s.control with
          mode := .unconfigured
          restartCause := false
          memoryLane := s.control.memoryLane ++ [.read 106, .release]
          safeTimer := .running 10 }
      ∧ t.driveLane = [0x5A#8, 0b0000100#7 ++ failsafe, 0xFF#8, 0xFF#8] :: s.driveLane
      ∧ t.alarmLine = true ∧ t.readyLine = false ∧ t.control.descriptor = none
      ∧ Unchanged [.control, .driveLane] s t

/-- SAFE_RECORD_TIMER_EXPIRY: in UNCONFIGURED one SAFE drive record is sent and the timer, restarted, keeps running
(R170, R181), its FAILSAFE flag a free value (log 28); in any other mode the timer does not run, and that the event then
changes nothing is the model's (log 1). -/
def Obligations.SafeRecordEachSecond : Prop :=
  ∀ s : State, StationOk s →
    (s.control.mode = .unconfigured →
      s.control.safeTimer.isRunning = true ∧ ∃ failsafe : BitVec 1,
        exec .safeRecordTimerExpiry s = .next (s.sendDrive [0x5A#8, 0b0000100#7 ++ failsafe, 0xFF#8, 0xFF#8]))
    ∧ (s.control.mode ≠ .unconfigured → exec .safeRecordTimerExpiry s = .next s)

/-- DESCRIPTOR_READ_COMPLETE with a valid descriptor: the clamped configuration and the band are loaded, V or H
takes its position in the band, DESCRIPTOR_CLAMPED and RESTARTED are latched as due, each input has the function its
code names if it fits the role and otherwise NONE, the timers of JOINING start, an input found active starts its debounce
timer or, with debounce 0, is recognised, every urgent latch set here sets alarm-due, and JOINING is entered (R84, R106,
R133, R134, R135, R139, R148, R169, R171, R172, R173). That H of a transfer station and V of a plant station stay at 0 is
the model's (log 2), the software band judged on the clamped limits is log 17, DESCRIPTOR_CLAMPED by comparison log 18. -/
def Obligations.ValidDescriptorEntersJoining : Prop :=
  ∀ (bytes : List Byte) (raw : Descriptor) (s : State), StationOk s →
    s.readInProgress = true → judgeDescriptor bytes = some raw →
    ∃ t, exec (.descriptorReadComplete bytes) s = .next t
      ∧ (let d := clampDescriptor raw
         let b := effectiveBand d (hardwareBand s.control.strapReading (driveRange d))
         t.config = clampIntoBand d b.1 ∧ t.band = b.1
           ∧ (t.latched .descriptorClamped = true ↔ s.latched .descriptorClamped = true ∨ d ≠ raw ∨ b.2 = true
              ∨ ∃ i, ∀ f, (raw.functionCodes.get i, f) ∉ fittingFunctions raw.role))
      ∧ (∀ i f, (raw.functionCodes.get i, f) ∈ fittingFunctions raw.role → t.measure.functions.get i = f)
      ∧ (∀ i, (∀ f, (raw.functionCodes.get i, f) ∉ fittingFunctions raw.role) → t.measure.functions.get i = .none)
      ∧ t.latched .restarted = (s.latched .restarted || s.control.restartCause)
      ∧ DescriptorOk t.config ∧ BandOk t.config t.band
      ∧ t.control = { s.control with
          mode := .joining
          joinTimer := .running (10 * t.config.joinTime)
          restartCause := false
          descriptor := some t.config
          driveBand := some t.band
          memoryLane := s.control.memoryLane ++ [.read 106, .release] }
      ∧ t.line = { s.line with silenceTimer := .running (10 * t.config.silenceTime) }
      ∧ t.measure.sampleTimer = .running t.config.sampleTimeout
      ∧ t.measure.fields = s.measure.fields ∧ t.measure.dpf = s.measure.dpf
      ∧ (let found (i : InputName) := (s.measure.inputs.get i).raw = activeLevel t.config i
         (∀ i, (¬ found i → t.measure.inputs.get i = s.measure.inputs.get i)
            ∧ (found i → t.config.debounce ≠ 0 → t.measure.inputs.get i =
                { s.measure.inputs.get i with debounceTimer := .running t.config.debounce })
            ∧ (found i → t.config.debounce = 0 → t.measure.inputs.get i =
                { s.measure.inputs.get i with
                  active := true
                  changed := true }))
          ∧ (t.latched .inputChange = true ↔ s.latched .inputChange = true
              ∨ ∃ i, found i ∧ t.config.debounce = 0 ∧ t.config.changeMask.getLsbD (InputName.bit i) = true))
      ∧ (∀ l, l ∉ [.descriptorClamped, .restarted, .inputChange] → t.latched l = s.latched l)
      ∧ (t.condition.alarmDue = true ↔ s.condition.alarmDue = true
          ∨ ∃ l, s.latched l = false ∧ t.latched l = true ∧ t.urgent l = true)
      ∧ t.condition.alarmSequence = s.condition.alarmSequence
      ∧ (t.config.role = .transfer →
          t.valve = { s.valve with
            command := t.config.failPosition
            periodTimer := .running t.config.controlPeriod }
          ∧ t.head = s.head)
      ∧ (t.config.role = .plant →
          t.head = { s.head with
            setpoint := t.config.hStart
            periodTimer := .running t.config.controlPeriod }
          ∧ t.valve = s.valve)
      ∧ t.readyLine = false
      ∧ Unchanged [.control, .line, .valve, .head, .measure, .condition] s t

/-- The loading of a valid descriptor: each tunable becomes the nearer end of its range if it lies outside and stays
otherwise, whatever the others are; then lost_time is stale_time + 1 if it is not greater than stale_time, and Hmax is
Hmin if it is less; base and limit of each sector range are clamped and its use stays; the number, the role, the masks,
the permission sets, lock_enable, the barred list, the input functions and the active levels are never clamped (R171).
A descriptor wholly in range is so loaded as it stands. Before clamping each field is what stands at its offset, one
character or two, most significant first; a sector range is used if its base as read is not above its limit (R10, R170,
R174, R182). A character missing from the operand reads FFH (log 9). -/
def Obligations.ClampingBringsIntoRange : Prop :=
  ∀ (bytes : List Byte) (raw : Descriptor), judgeDescriptor bytes = some raw →
    let d := clampDescriptor raw
    let at_ (offset : Nat) : Byte := bytes.getD offset 0xFF#8
    let one (offset : Nat) : Nat := (at_ offset).toNat
    (raw.number = one 5 ∧ (raw.role = .transfer ↔ one 6 = 1) ∧ (raw.role = .plant ↔ one 6 = 2)
      ∧ (raw.lockEnable = true ↔ one 9 ≠ 0))
    ∧ (∀ offset value, (offset, value) ∈
        [ (7, raw.ownClass), (8, raw.bitRate), (10, raw.staleTime), (11, raw.joinTime), (14, raw.silenceTime),
          (15, raw.reportInterval), (16, raw.minSpacing), (17, raw.controlPeriod), (18, raw.sampleTimeout),
          (19, raw.holdTime), (20, raw.debounce), (21, raw.filterA) ] → value = one offset)
    ∧ (∀ offset value, (offset, value) ∈
        [ (12, raw.lostTime), (30, raw.dTmin), (32, raw.dThys), (34, raw.lFloor), (36, raw.lTight), (38, raw.lRelax),
          (40, raw.kv), (42, raw.rMax), (44, raw.vWide), (46, raw.failPosition), (48, raw.softLo), (50, raw.softHi),
          (52, raw.gFloor), (54, raw.gFallback), (56, raw.qDef), (58, raw.dpReq), (60, raw.reportDelta),
          (62, raw.starveMargin), (64, raw.starveCount), (66, raw.hMin), (68, raw.hMax), (70, raw.hStart),
          (72, raw.hIsolated), (74, raw.hStep), (76, raw.kh), (78, raw.reserve) ] →
        value = 256 * one offset + one (offset + 1))
    ∧ raw.sectors = [22, 24, 26, 28].map (fun k => ⟨one k, one (k + 1), decide (one k ≤ one (k + 1))⟩)
    ∧ (raw.permissions = [80, 81, 82, 83, 84, 85, 86, 87, 88, 89].map at_ ∧ raw.barred = [90, 91, 92, 93].map at_)
    ∧ (raw.alarmMask = at_ 94 ++ at_ 95 ++ at_ 96 ∧ raw.urgentMask = at_ 97 ++ at_ 98 ++ at_ 99
        ∧ raw.changeMask = at_ 100 ∧ raw.functionCodes = ⟨at_ 101, at_ 102, at_ 103, at_ 104⟩
        ∧ raw.activeLevels = at_ 105)
    ∧ (∀ (lo hi : Nat) (tunable : Descriptor → Nat), (lo, tunable, hi) ∈ ownRangeTunables →
      tunable d = max lo (min hi (tunable raw)))
    ∧ (let lost := max 2 (min 600 raw.lostTime)
       d.lostTime = if d.staleTime < lost then lost else d.staleTime + 1)
    ∧ d.hMax = max d.hMin (max 0 (min 10000 raw.hMax))
    ∧ d.sectors = raw.sectors.map (fun r =>
        ⟨max 1 (min 239 r.base), max 1 (min 239 r.limit), r.used⟩)
    ∧ (d.number = raw.number ∧ d.role = raw.role ∧ d.lockEnable = raw.lockEnable
        ∧ d.permissions = raw.permissions ∧ d.barred = raw.barred ∧ d.alarmMask = raw.alarmMask
        ∧ d.urgentMask = raw.urgentMask ∧ d.changeMask = raw.changeMask ∧ d.functionCodes = raw.functionCodes
        ∧ d.activeLevels = raw.activeLevels)
    ∧ DescriptorOk d ∧ (DescriptorOk raw → d = raw)

/-- The drive band (R172): p is the drive range's span times the fraction of the band code, rounded down, taken off the
upper end with TOP and the lower with BOTTOM; a transfer station's software band narrows it, is unused when its lower
limit is the greater, and gives way when the intersection is empty; a safe descriptor and any strap reading of a code from
0 to 7 give a band inside the drive range. The fail position of a transfer station, or H_start and H_isolated of a plant
station, becomes the nearer end of that band if it lies outside, and the rest of the descriptor stays. -/
def Obligations.DriveBandInsideRange : Prop :=
  ∀ (d : Descriptor) (r : StrapReading), DescriptorOk d → r.code ≤ 7 →
    let range := driveRange d
    let hardware := hardwareBand r range
    let effective := effectiveBand d hardware
    (d.role = .transfer → range = ⟨0, 10000⟩) ∧ (d.role = .plant → range = ⟨d.hMin, d.hMax⟩)
      ∧ (∀ (code denominator p : Nat),
          (code, denominator) ∈ [(1, 64), (2, 32), (3, 16), (4, 8), (5, 4), (6, 2), (7, 1)] → r.code = code →
          p = (range.hi - range.lo) / denominator →
          (r.bandEnd = .top → hardware = ⟨range.lo, range.hi - p⟩)
            ∧ (r.bandEnd = .bottom → hardware = ⟨range.lo + p, range.hi⟩))
      ∧ (r.code = 0 → hardware = range)
      ∧ (r.code = 7 → r.bandEnd = .top → hardware = ⟨range.lo, range.lo⟩)
      ∧ (r.code = 7 → r.bandEnd = .bottom → hardware = ⟨range.hi, range.hi⟩)
      ∧ (range.lo ≤ hardware.lo ∧ hardware.lo ≤ hardware.hi ∧ hardware.hi ≤ range.hi)
      ∧ (d.role = .plant → effective = (hardware, false))
      ∧ (d.role = .transfer → d.softHi < d.softLo → effective = (hardware, false))
      ∧ (d.role = .transfer → d.softLo ≤ d.softHi →
          max hardware.lo d.softLo ≤ min hardware.hi d.softHi →
          effective = (⟨max hardware.lo d.softLo, min hardware.hi d.softHi⟩, false))
      ∧ (d.role = .transfer → d.softLo ≤ d.softHi →
          min hardware.hi d.softHi < max hardware.lo d.softLo → effective = (hardware, true))
      ∧ (let into (position : Nat) : Nat := max effective.1.lo (min effective.1.hi position)
         (d.role = .transfer → clampIntoBand d effective.1 = { d with failPosition := into d.failPosition })
          ∧ (d.role = .plant → clampIntoBand d effective.1 =
              { d with hStart := into d.hStart, hIsolated := into d.hIsolated }))
      ∧ BandOk (clampIntoBand d effective.1) effective.1

/-! ### Modes and output lines -/

/-- READY is high exactly in RUNNING and HOLD, is low after power-up and after every reset, and rises only at the join
timer's expiry (R142). The condition word holds the fourteen latches in bits 0 to 13 in their order, and in bits 14 to 21
the live conditions as their owners stand, of which six are false in a plant station; after power-up FAILSAFE and
NO_OFFER alone are true (R63, R144, R145, R177; log 26 for a station whose role is not yet known). ALARM is low in
STARTING, high in UNCONFIGURED, and otherwise high while the word and the alarm mask share a flag (R147). -/
def Obligations.OutputLinesFollowMode : Prop :=
  State.reset.readyLine = false ∧ State.reset.conditionWord = (1#22 <<< 15) ||| (1#22 <<< 17)
    ∧ (∀ s : State,
      (s.readyLine = true ↔ s.control.mode = .running ∨ s.control.mode = .hold)
        ∧ (∀ k, k < 14 → s.conditionWord.getLsbD k = s.condition.latches.getLsbD k)
        ∧ (∀ k l, [Latch.rxOverrun, .damagedSeen, .txAbandon, .replyLost, .tableFull, .numberClash, .sampleMissing,
              .fieldAbsent, .profileGap, .inputChange, .holdExpired, .restarted, .descriptorClamped,
              .shedReceived][k]? = some l →
            s.latched l = s.condition.latches.getLsbD k ∧ s.urgent l = s.config.urgentMask.getLsbD k)
        ∧ s.conditionWord.getLsbD 14 = s.line.isolated
        ∧ (s.isPlant = false → s.conditionWord.getLsbD 15 = s.valve.failsafe
            ∧ s.conditionWord.getLsbD 16 = decide (s.share.record.grant < s.share.record.requestUsed)
            ∧ s.conditionWord.getLsbD 17 = decide (s.share.record.outcome = .noOffer)
            ∧ s.conditionWord.getLsbD 18 = s.limit.shedInForce
            ∧ s.conditionWord.getLsbD 19 = decide (s.valve.limiter < 1000)
            ∧ s.conditionWord.getLsbD 20 = s.valve.localHand)
        ∧ (s.isPlant = true → ∀ k, 15 ≤ k → k ≤ 20 → s.conditionWord.getLsbD k = false)
        ∧ s.conditionWord.getLsbD 21 = decide (s.control.mode = .hold)
        ∧ (s.control.mode = .starting → s.alarmLine = false)
        ∧ (s.control.mode = .unconfigured → s.alarmLine = true)
        ∧ (s.active = true →
            (s.alarmLine = true ↔
              ∃ k, k < 22 ∧ s.conditionWord.getLsbD k = true ∧ s.config.alarmMask.getLsbD k = true)))
    ∧ ∀ (c : Instr) (s t : State), StationOk s → exec c s = .next t →
        (c = .resetPinAssert → t.readyLine = false)
          ∧ (s.control.mode = .joining → (∃ order, c = .joinTimerExpiry order) → t.readyLine = true)
          ∧ (s.readyLine = false → t.readyLine = true →
              s.control.mode = .joining ∧ ∃ order, c = .joinTimerExpiry order)
          ∧ (s.readyLine = true → t.readyLine = false → t.control.mode = .starting)

/-- JOIN_TIMER_EXPIRY: JOINING ends in RUNNING, READY goes high, the first report is queued with both report timers
started, and an ALARM is queued if alarm-due was set (R139, R42, R45, R149); which of the two is offered first is the
operand (log 7). That in any other mode nothing changes is the model's (log 1). -/
def Obligations.JoinTimerEntersRunning : Prop :=
  ∀ (order : OfferOrder) (s : State), StationOk s →
    (s.control.mode = .joining →
      ∃ t, exec (.joinTimerExpiry order) s = .next t
        ∧ t.control = { s.control with
            mode := .running
            joinTimer := .stopped }
        ∧ t.readyLine = true
        ∧ t.reports = { s.reports with
            intervalTimer := .running (10 * s.config.reportInterval)
            spacingTimer := .running s.config.minSpacing }
        ∧ t.condition = { s.condition with alarmDue := false }
        ∧ t.line.inFlight = some
            (if s.condition.alarmDue = true ∧ order = .alarmFirst then .alarm none else .report none)
        ∧ t.line.waiting =
            (if s.condition.alarmDue = true then
              (if order = .alarmFirst then [.report none] else [.alarm none])
             else [])
        ∧ LineQuiet s t ∧ t.line.repliesLost = s.line.repliesLost
        ∧ Unchanged [.control, .line, .reports, .condition] s t)
    ∧ (s.control.mode ≠ .joining → exec (.joinTimerExpiry order) s = .next s)

/-- HOLD_TIMER_EXPIRY: HOLD ends in RUNNING and HOLD_EXPIRED is latched, with or without a RESTART pending (R141, R148,
R167). That in any other mode, where the timer does not run, nothing changes is the model's (log 1). A reply that
the latch's ALARM displaces sets REPLY_LOST, carried by that same ALARM (log 16). -/
def Obligations.HoldTimerEndsHold : Prop :=
  ∀ s : State, StationOk s →
    (s.control.mode = .hold →
      let running := s.setControl { s.control with
        mode := .running
        holdTimer := .stopped }
      ∃ t, exec .holdTimerExpiry s = .next t ∧ LatchSet .holdExpired running t
        ∧ (¬ DisplacesRestart .holdExpired running → t.readyLine = true))
    ∧ (s.control.mode ≠ .hold → exec .holdTimerExpiry s = .next s)

/-- The mode moves only as the table of modes says: to STARTING by RESET_PIN_ASSERT, or in the event in which the reply of a
RESTART leaves the Transmit Queue, sent or abandoned in flight or displaced from a full queue, or finds no place in it;
out of STARTING at the end of the descriptor read, from JOINING to RUNNING by the join timer, from RUNNING to HOLD by HOLD,
and back by RELEASE or the hold timer (R138 to R141, R167, R168, R170, R173). The reset of a RESTART finds the pins as the
event's own level change leaves them; its state rests on log 2, log 3, log 5, log 19 and log 23. -/
def Obligations.ModeMovesOnlyByItsEvents : Prop :=
  ∀ (c : Instr) (s t : State), exec c s = .next t → StationOk s → t.control.mode ≠ s.control.mode →
    (t.control.mode = .starting ∧ c = .resetPinAssert)
      ∨ (t.control.mode = .starting
          ∧ Restarted (match c with
            | .rawLevelChange i level => s.setMeasure { s.measure with
                inputs := s.measure.inputs.set i { s.measure.inputs.get i with raw := level } }
            | _ => s) t
          ∧ (((∃ e, s.line.inFlight = some e ∧ e.marked = true)
                ∧ ∃ choice order, c = .entrySent choice order ∨ c = .jamEnd choice order)
            ∨ (s.line.txCount = 6 ∧ ∃ e ∈ s.line.waiting, e.marked = true)
            ∨ (c = .restart ∧ ∃ f rest, Admitted .restart f rest s ∧ DropsReply f s)))
      ∨ (s.control.mode = .starting ∧ (∃ bytes, c = .descriptorReadComplete bytes)
          ∧ (t.control.mode = .unconfigured ∨ t.control.mode = .joining))
      ∨ (s.control.mode = .joining ∧ t.control.mode = .running ∧ ∃ order, c = .joinTimerExpiry order)
      ∨ (s.control.mode = .running ∧ t.control.mode = .hold ∧ c = .hold)
      ∨ (s.control.mode = .hold ∧ t.control.mode = .running ∧ (c = .release ∨ c = .holdTimerExpiry))

/-- Every value taken from the descriptor or the straps stays as loaded until the next reset: no event changes the
loaded descriptor, the drive band, the strap reading or an input function of a safe station that has left STARTING
(R173). -/
def Obligations.ConfigurationFixedUntilReset : Prop :=
  ∀ (c : Instr) (s t : State), StationOk s → exec c s = .next t → s.active = true →
    t.control.mode = .starting
      ∨ (t.control.descriptor = s.control.descriptor ∧ t.control.driveBand = s.control.driveBand
          ∧ t.control.strapReading = s.control.strapReading ∧ t.measure.functions = s.measure.functions)

/-! ### The Valve Loop -/

/-- VALVE_LOOP_CONTROL_PERIOD_EXPIRY, Stages 1 to 4: the limiter factor, the building request, the reported request
and the flow target, with the publication, its computation and the read of the grant in each of their orders; nothing
else changes but what the change trigger and Stages 5 to 7 move (R82, R88, R90, R91, R92, R53). That the order is an
operand, and the trigger that is left over counted, is the model's (log 4, log 7). -/
def Obligations.ValvePeriodFormsRequest : Prop :=
  ∀ (order : GrantOrder) (s : State), StationOk s → s.isTransfer = true →
    ∃ t, exec (.valveLoopControlPeriodExpiry order) s = .next t
      ∧ (∀ a b : Nat, s.reading .ts = some a → s.reading .tr = some b →
          t.valve.lastDt = some ((b : Int) - (a : Int))
            ∧ ((b : Int) - (a : Int) < s.config.dTmin →
                t.valve.limiter = max s.config.lFloor (s.valve.limiter - s.config.lTight))
            ∧ ((s.config.dTmin : Int) ≤ (b : Int) - (a : Int) →
                (b : Int) - (a : Int) < s.config.dTmin + s.config.dThys → t.valve.limiter = s.valve.limiter)
            ∧ ((s.config.dTmin : Int) + s.config.dThys ≤ (b : Int) - (a : Int) →
                t.valve.limiter = min 1000 (s.valve.limiter + s.config.lRelax)))
      ∧ (s.reading .ts = none ∨ s.reading .tr = none →
          t.valve.lastDt = none ∧ t.valve.limiter = s.valve.limiter)
      ∧ (s.measure.functionActive .isolationClosed = true → t.valve.qreq = 0)
      ∧ (s.measure.functionActive .isolationClosed = false →
          (∀ q, s.reading .qb = some q → t.valve.qreq = q * t.valve.limiter / 1000)
            ∧ (s.reading .qb = none → t.valve.qreq = s.config.qDef * t.valve.limiter / 1000))
      ∧ (t.valve.qr ≤ t.valve.qreq ∧ (∀ l ∈ s.limit.limitInForce, t.valve.qr ≤ l)
          ∧ (s.limit.shedInForce = true → t.valve.qr ≤ s.config.gFloor)
          ∧ (t.valve.qr = t.valve.qreq ∨ s.limit.limitInForce = some t.valve.qr
              ∨ (s.limit.shedInForce = true ∧ t.valve.qr = s.config.gFloor)))
      ∧ (order = .readFirst →
          t.valve.qt = min t.valve.qr s.share.record.grant
            ∧ t.share = { s.share with
                triggers := s.share.triggers + if s.speaking = true then 1 else 0 })
      ∧ (order = .readThenComputation →
          t.valve.qt = min t.valve.qr s.share.record.grant
            ∧ t.share = if s.speaking = true then
                { s.share with record := computeShare { s.shareInputs with qr := t.valve.qr } }
              else s.share)
      ∧ (order = .computationFirst →
          t.valve.qt = min t.valve.qr t.share.record.grant
            ∧ t.share = if s.speaking = true then
                { s.share with record := computeShare { s.shareInputs with qr := t.valve.qr } }
              else s.share)
      ∧ t.valve.periodTimer = s.valve.periodTimer
      ∧ LineQuiet s t ∧ ReportsQuiet s t ∧ t.line.repliesLost = s.line.repliesLost
      ∧ Unchanged [.line, .reports, .share, .valve, .driveLane] s t

/-- VALVE_LOOP_CONTROL_PERIOD_EXPIRY, Stages 5 and 7: V by the first case that applies, FAILSAFE and LOCAL with it,
and one drive record that carries them (R93 to R98, R103). -/
def Obligations.ValvePeriodMovesValve : Prop :=
  ∀ (order : GrantOrder) (s : State), StationOk s → s.isTransfer = true →
    ∃ t, exec (.valveLoopControlPeriodExpiry order) s = .next t
      ∧ (s.reading .q = none ∨ s.control.mode = .joining →
          t.valve.command = s.config.failPosition ∧ t.valve.failsafe = true)
      ∧ (∀ q : Nat, s.reading .q = some q → s.control.mode = .hold →
          t.valve.command = s.valve.command ∧ t.valve.failsafe = false)
      ∧ (∀ q : Nat, s.reading .q = some q → s.control.mode = .running → t.valve.failsafe = false
          ∧ (s.measure.functionActive .localHand = true →
              (∀ p, s.reading .vf = some p → t.valve.command = max s.band.lo (min s.band.hi p))
                ∧ (s.reading .vf = none → t.valve.command = s.valve.command))
          ∧ (s.measure.functionActive .localHand = false →
              (s.measure.functionActive .isolationClosed = true → t.valve.command = s.band.lo)
                ∧ (s.measure.functionActive .isolationClosed = false →
                    (t.valve.command : Int) =
                      max (s.band.lo : Int) (min (s.band.hi : Int) ((s.valve.command : Int)
                        + max (-(s.config.rMax : Int)) (min (s.config.rMax : Int)
                            (Int.tdiv (((t.valve.qt : Int) - (q : Int)) * (s.config.kv : Int)) 256))))))
          )
      ∧ t.valve.localHand = s.measure.functionActive .localHand
      ∧ (s.band.lo ≤ t.valve.command ∧ t.valve.command ≤ s.band.hi)
      ∧ ∃ flags, t.driveLane =
            [0x5A#8, flags, BitVec.ofNat 8 (t.valve.command / 256), BitVec.ofNat 8 t.valve.command]
              :: s.driveLane
          ∧ DriveFlags flags t.valve.failsafe (decide (s.control.mode = .hold)) t.valve.localHand false

/-- VALVE_LOOP_CONTROL_PERIOD_EXPIRY, Stage 6: WIDE, the starve count, STARVED and the margin (R99, R100, R101). -/
def Obligations.ValvePeriodSetsFlags : Prop :=
  ∀ (order : GrantOrder) (s : State), StationOk s → s.isTransfer = true →
    ∃ t, exec (.valveLoopControlPeriodExpiry order) s = .next t
      ∧ (t.valve.wide = true ↔ s.config.vWide ≤ t.valve.command ∨ s.band.hi ≤ t.valve.command)
      ∧ ((t.valve.wide = true ∧ ∃ q, s.reading .q = some q ∧ q + s.config.starveMargin < t.valve.qt) →
          t.valve.starve = min s.config.starveCount (s.valve.starve + 1))
      ∧ ((t.valve.wide = false ∨ s.reading .q = none
            ∨ ∃ q, s.reading .q = some q ∧ t.valve.qt ≤ q + s.config.starveMargin) → t.valve.starve = 0)
      ∧ (t.valve.starved = true ↔ t.valve.starve = s.config.starveCount)
      ∧ (s.reading .dp = none → t.valve.margin = none)
      ∧ (∀ d p : Nat, s.reading .dp = some d → s.measure.dpf = some p →
          t.valve.margin = some (max (-3000) (min 3000 ((p : Int) - (s.config.dpReq : Int)))))

/-- The change trigger at a control-period end: in RUNNING and HOLD a difference against the snapshot sets
report-due, unless a waiting REPORT absorbs it, and the report is queued if it can be; otherwise the Report
Scheduler and the queue stay as they are (R40, R41, R42, R43). -/
def Obligations.ChangeTriggerAtPeriodEnd : Prop :=
  ∀ (order : GrantOrder) (s : State), StationOk s → s.active = true →
    ∃ t, exec (if s.isTransfer = true then .valveLoopControlPeriodExpiry order
          else .headControlPeriodExpiry) s = .next t
      ∧ ((s.speaking = true ∧ s.line.absorbsReport = false
            ∧ ∃ old, s.reports.snapshot = some old ∧ Changed s.config.reportDelta old (presentSnapshot t)) →
          AfterReportDue
            ((((s.setShare t.share).setValve t.valve).setHead t.head).sendDrive (t.driveLane.headD [])) t)
      ∧ ((s.speaking = false ∨ s.line.absorbsReport = true ∨ s.reports.snapshot = none
            ∨ ∃ old, s.reports.snapshot = some old
                ∧ ¬ Changed s.config.reportDelta old (presentSnapshot t)) →
          t.reports = s.reports ∧ t.line = s.line)

/-! ### The Head Reset Unit -/

/-- HEAD_CONTROL_PERIOD_EXPIRY, the choice: in RUNNING and HOLD the critical station is the eligible peer of least
margin, the lowest number among equals, and the counts are those of the eligible peers; in JOINING no choice is
made (R112). -/
def Obligations.CriticalStationIsLeastMargin : Prop :=
  ∀ s : State, StationOk s → s.isPlant = true →
    ∃ t, exec .headControlPeriodExpiry s = .next t
      ∧ (s.control.mode = .joining →
          t.head.eligible = 0 ∧ t.head.starvedEligible = 0 ∧ t.head.critical = none
            ∧ t.head.criticalMargin = none)
      ∧ (s.control.mode ≠ .joining →
          (∀ e m, e ∈ s.peers.entries → Eligible e m →
            ∃ c mc, c ∈ s.peers.entries ∧ Eligible c mc ∧ t.head.critical = some c.number
              ∧ t.head.criticalMargin = some mc ∧ (mc < m ∨ (mc = m ∧ c.number ≤ e.number)))
          ∧ ((∀ e m, e ∈ s.peers.entries → ¬ Eligible e m) →
              t.head.critical = none ∧ t.head.criticalMargin = none ∧ t.head.eligible = 0)
          ∧ (∀ l : List PeerEntry, l.Nodup → (∀ e, e ∈ l ↔ e ∈ s.peers.entries ∧ ∃ m, Eligible e m) →
              t.head.eligible = l.length)
          ∧ (∀ l : List PeerEntry, l.Nodup →
              (∀ e, e ∈ l ↔ e ∈ s.peers.entries ∧ (∃ m, Eligible e m)
                ∧ ∃ p, e.part = .transfer p ∧ p.starved = true) →
              t.head.starvedEligible = l.length))

/-- HEAD_CONTROL_PERIOD_EXPIRY, the head: H by the first head case that applies, clamped into the band, the movement
recorded, and one drive record that carries H; the offer, the Peer Table and the other blocks stay (R113 to R119).
-/
def Obligations.HeadPeriodMovesHead : Prop :=
  ∀ s : State, StationOk s → s.isPlant = true →
    ∃ t, exec .headControlPeriodExpiry s = .next t
      ∧ (s.control.mode = .joining → t.head.headCase = .joining ∧ t.head.setpoint = s.config.hStart)
      ∧ (s.control.mode = .hold → t.head.headCase = .hold ∧ t.head.setpoint = s.head.setpoint)
      ∧ (s.control.mode = .running → s.line.isolated = true → t.head.headCase = .isolated
          ∧ (s.head.setpoint < s.config.hIsolated →
              t.head.setpoint = min (s.head.setpoint + s.config.hStep) s.config.hIsolated)
          ∧ (s.config.hIsolated < s.head.setpoint →
              t.head.setpoint = max (s.head.setpoint - s.config.hStep) s.config.hIsolated)
          ∧ (s.head.setpoint = s.config.hIsolated → t.head.setpoint = s.head.setpoint))
      ∧ (s.control.mode = .running → s.line.isolated = false → t.head.eligible = 0 →
          t.head.headCase = .noPeers ∧ t.head.setpoint = s.head.setpoint)
      ∧ (s.control.mode = .running → s.line.isolated = false → t.head.eligible ≠ 0 →
          t.head.starvedEligible ≠ 0 →
          t.head.headCase = .starved ∧ t.head.setpoint = min (s.head.setpoint + s.config.hStep) s.band.hi)
      ∧ (s.control.mode = .running → s.line.isolated = false → t.head.eligible ≠ 0 →
          t.head.starvedEligible = 0 → t.head.headCase = .proportional
            ∧ ∃ mc, t.head.criticalMargin = some mc
                ∧ (t.head.setpoint : Int) = max (s.band.lo : Int) (min (s.band.hi : Int)
                    ((s.head.setpoint : Int) + max (-(s.config.hStep : Int)) (min (s.config.hStep : Int)
                      (-(Int.tdiv ((s.config.kh : Int) * mc) 64))))))
      ∧ t.head.lastMovement = (t.head.setpoint : Int) - (s.head.setpoint : Int)
      ∧ (s.band.lo ≤ t.head.setpoint ∧ t.head.setpoint ≤ s.band.hi)
      ∧ t.head.offer = s.head.offer ∧ t.head.offerBasis = s.head.offerBasis
      ∧ t.head.periodTimer = s.head.periodTimer
      ∧ (∃ flags, t.driveLane =
            [0x5A#8, flags, BitVec.ofNat 8 (t.head.setpoint / 256), BitVec.ofNat 8 t.head.setpoint]
              :: s.driveLane
          ∧ DriveFlags flags false (decide (s.control.mode = .hold)) false false)
      ∧ LineQuiet s t ∧ ReportsQuiet s t ∧ t.line.repliesLost = s.line.repliesLost
      ∧ Unchanged [.line, .reports, .head, .driveLane] s t

/-! ### The Share Engine -/

/-- SHARE_COMPUTATION: in RUNNING and HOLD of a transfer station a trigger gives one computation from the inputs as
they stand, which replaces the whole record; without a trigger, or in another mode or role, nothing changes (R49,
R50, R51, R52, R62). The count of triggers is the model's (log 4). -/
def Obligations.ShareComputationAnswersTrigger : Prop :=
  ∀ s : State, StationOk s →
    (s.speaking = true → s.isTransfer = true → 0 < s.share.triggers →
      exec .shareComputation s = .next (s.setShare
        { record := computeShare
            { qr := s.valve.qr
              ownClass := s.config.ownClass
              isolated := s.line.isolated
              gFloor := s.config.gFloor
              gFallback := s.config.gFallback
              entries := s.peers.entries }
          triggers := s.share.triggers - 1 }))
    ∧ (s.speaking = false ∨ s.isTransfer = false ∨ s.share.triggers = 0 →
        exec .shareComputation s = .next s)

/-- The five stages of a computation: capacity and counts (R54), the fallbacks (R55, R56), the class sums (R57),
the filling (R58), the own share and outcome (R60), the floor (R61). -/
def Obligations.ComputationFollowsStages : Prop :=
  ∀ i : ShareInputs, i.ownClass ≤ 3 →
    let r := computeShare i
    let plants (f : Freshness) := i.entries.filterMap (fun e =>
      match e.part with
      | .plant p => if e.membership = .inSector ∧ e.freshness = f then some p.offer else none
      | .transfer _ => none)
    let requests (k : Nat) := i.entries.filterMap (fun e =>
      match e.part with
      | .transfer p =>
        if e.membership = .inSector ∧ e.freshness ≠ .lost ∧ p.cls = k then some p.qr else none
      | .plant _ => none)
    let sum (k : Nat) := (requests k).sum + if i.ownClass = k then i.qr else 0
    r.requestUsed = i.qr ∧ r.capacity = (plants .fresh).sum + ((plants .stale).map (· / 2)).sum
      ∧ r.freshPlants = (plants .fresh).length ∧ r.stalePlants = (plants .stale).length
      ∧ ((∀ e ∈ i.entries, ∀ p, e.part = .transfer p → p.cls ≤ 3) →
          r.transferPeers = (requests 0).length + (requests 1).length + (requests 2).length
            + (requests 3).length)
      ∧ (i.isolated = true → r.outcome = .isolated)
      ∧ (i.isolated = false → r.freshPlants + r.stalePlants = 0 → r.outcome = .noOffer)
      ∧ (i.isolated = true ∨ r.freshPlants + r.stalePlants = 0 →
          r.grant = min i.qr i.gFallback ∧ r.floorApplied = false ∧ r.s0 = none ∧ r.s1 = none
            ∧ r.s2 = none ∧ r.s3 = none ∧ r.remainder = none ∧ r.ownShare = none)
      ∧ (i.isolated = false → r.freshPlants + r.stalePlants ≠ 0 →
          r.s0 = some (sum 0) ∧ r.s1 = some (sum 1) ∧ r.s2 = some (sum 2) ∧ r.s3 = some (sum 3)
            ∧ ∃ rem : Nat → Nat, ∃ share, rem 0 = r.capacity
              ∧ (∀ k, k < 3 → rem (k + 1) = if sum k ≤ rem k then rem k - sum k else 0)
              ∧ r.remainder = some (rem i.ownClass) ∧ r.ownShare = some share
              ∧ (i.qr = 0 → share = 0 ∧ r.outcome = .full)
              ∧ (i.qr ≠ 0 → sum i.ownClass ≤ rem i.ownClass → share = i.qr ∧ r.outcome = .full)
              ∧ (i.qr ≠ 0 → rem i.ownClass < sum i.ownClass → 0 < rem i.ownClass →
                  share = i.qr * rem i.ownClass / sum i.ownClass ∧ r.outcome = .prorated)
              ∧ (i.qr ≠ 0 → rem i.ownClass < sum i.ownClass → rem i.ownClass = 0 →
                  share = 0 ∧ r.outcome = .cut)
              ∧ r.grant = max share (min i.qr i.gFloor)
              ∧ (r.floorApplied = true ↔ share < min i.qr i.gFloor))

/-- The grant does not exceed the reported request from which it was computed; the floor is reached in every
computation that no fallback ends, so a request within the floor is granted whole; and CURTAILED tells exactly a
grant below the request (R61, R62, R67). -/
def Obligations.GrantWithinRequest : Prop :=
  ∀ i : ShareInputs,
    (computeShare i).grant ≤ i.qr
      ∧ ((computeShare i).outcome ≠ .isolated → (computeShare i).outcome ≠ .noOffer →
          min i.qr i.gFloor ≤ (computeShare i).grant ∧ (i.qr ≤ i.gFloor → (computeShare i).grant = i.qr))
      ∧ ((computeShare i).curtailed = true ↔ (computeShare i).grant < i.qr)
      ∧ ((computeShare i).outcome = .full → (computeShare i).grant = i.qr)

/-- In every computation the shares of all members, the own station's and those of the counted transfer peers, add up
to at most the capacity figure C (R59). -/
def Obligations.SharesFitCapacity : Prop :=
  ∀ (entries : List PeerEntry) (ownClass qr : Nat), ownClass ≤ 3 →
    (∀ e ∈ entries, ∀ p, e.part = .transfer p → p.cls ≤ 3) →
    let sums := classSum entries ownClass qr
    let found := remainderAt (capacityOf entries) sums
    (entries.map (fun e =>
        match e.part with
        | .transfer p => if e.counted = true then memberShare p.qr (found p.cls) (sums p.cls) else 0
        | .plant _ => 0)).sum
      + ownShareOf qr (found ownClass) (sums ownClass) ≤ capacityOf entries

/-! ### The Peer Table -/

/-- AGE_TIMER_EXPIRY: the age rises by one and the freshness follows it in the same event; the timer stops at 65535;
an IN_SECTOR entry gives a change notice at its stale and its lost expiry; nothing else changes (R18, R19, R11). That an
expiry for a station with no entry, or with a stopped timer, changes nothing is the model's (log 1). The notice is
counted in the model's trigger count (log 4). -/
def Obligations.AgeTimerAgesEntry : Prop :=
  ∀ (number : Nat) (s : State), StationOk s →
    (∀ e ∈ s.peers.entries, e.number = number → e.age < 65535 →
      ∃ e', e' = { e with
          age := e.age + 1
          ageTimer := if e.age + 1 = 65535 then .stopped else .running 10
          freshness := e'.freshness }
        ∧ (e.age + 1 = s.config.staleTime → e'.freshness = .stale)
        ∧ (e.age + 1 = s.config.lostTime → e'.freshness = .lost)
        ∧ (e.age + 1 ≠ s.config.staleTime → e.age + 1 ≠ s.config.lostTime → e'.freshness = e.freshness)
        ∧ exec (.ageTimerExpiry number) s = .next
            ((s.setPeers { s.peers with
                entries := s.peers.entries.map (fun x => if x.number = number then e' else x) }).noticed
              (decide (e.membership = .inSector
                ∧ (e.age + 1 = s.config.staleTime ∨ e.age + 1 = s.config.lostTime)))))
    ∧ ((∀ e ∈ s.peers.entries, e.number = number → e.age = 65535) →
        exec (.ageTimerExpiry number) s = .next s)

/-- TAKE_STATION_REPORT from a peer with an entry: a role change, a LOST entry or START accepts the report whatever
its sequence; otherwise the sequence window accepts it, counts it as a duplicate or as out of order; an
acceptance replaces the entry whole and gives a notice for an IN_SECTOR entry (R15, R16, R17, R11). The notice is
counted in the model's trigger count (log 4). -/
def Obligations.ReportIntoExistingEntry : Prop :=
  ∀ (f : Frame) (b : ReportBody) (rest : List Frame) (e : PeerEntry) (s : State), StationOk s →
    ReportAtFront f b rest s → e ∈ s.peers.entries → e.number = f.source.toNat →
    let taken := s.withoutFront rest
    let accepted (count : Nat) := (taken.setPeers { s.peers with
        entries := s.peers.entries.map (fun x =>
          if x.number = e.number then EntryFrom e.number e.membership count f b else x) }).noticed
      (decide (e.membership = .inSector))
    let d := (f.sequence.toNat + 256 - e.lastSequence.toNat) % 256
    (RolePart.role e.part ≠ RolePart.role b.part → exec .takeStationReport s = .next (accepted 0))
      ∧ (RolePart.role e.part = RolePart.role b.part → e.freshness = .lost ∨ f.start = true →
          exec .takeStationReport s = .next (accepted e.acceptedCount))
      ∧ (RolePart.role e.part = RolePart.role b.part → e.freshness ≠ .lost → f.start = false →
          (1 ≤ d → d ≤ 127 → exec .takeStationReport s = .next (accepted e.acceptedCount))
            ∧ (d = 0 → exec .takeStationReport s = .next (taken.setPeers { s.peers with
                duplicates := min 65535 (s.peers.duplicates + 1) }))
            ∧ (128 ≤ d → exec .takeStationReport s = .next (taken.setPeers { s.peers with
                outOfOrder := min 65535 (s.peers.outOfOrder + 1) })))

/-- TAKE_STATION_REPORT from a peer with no entry while the table has room: a new entry stands in its place in number
order, with its membership by the sector ranges and its first report accepted; the others keep their order (R5,
R10, R14, R17). The notice is counted in the model's trigger count (log 4). -/
def Obligations.ReportCreatesEntry : Prop :=
  ∀ (f : Frame) (b : ReportBody) (rest : List Frame) (s : State), StationOk s → ReportAtFront f b rest s →
    (∀ e ∈ s.peers.entries, e.number ≠ f.source.toNat) → s.peers.entries.length < 48 →
    ∃ t membership before after, exec .takeStationReport s = .next t
      ∧ (membership = .inSector ↔ (∀ r ∈ s.config.sectors, r.used = false)
          ∨ ∃ r ∈ s.config.sectors, r.used = true ∧ r.base ≤ f.source.toNat ∧ f.source.toNat ≤ r.limit)
      ∧ s.peers.entries = before ++ after
      ∧ (∀ e ∈ before, e.number < f.source.toNat) ∧ (∀ e ∈ after, f.source.toNat < e.number)
      ∧ t = ((s.withoutFront rest).setPeers { s.peers with
            entries := before ++ EntryFrom f.source.toNat membership 0 f b :: after }).noticed
          (decide (membership = .inSector))

/-- TAKE_STATION_REPORT from a peer with no entry in a full table: the victim gives way and the new entry stands in
number order; without a victim the report is refused, TABLE_FULL is latched and TABLE_REFUSALS incremented (R23,
R24). A reply that the latch's ALARM displaces sets REPLY_LOST, carried by that same ALARM (log 16). The notice is
counted in the model's trigger count (log 4). -/
def Obligations.FullTableEvictsOrRefuses : Prop :=
  ∀ (f : Frame) (b : ReportBody) (rest : List Frame) (s : State), StationOk s → ReportAtFront f b rest s →
    (∀ e ∈ s.peers.entries, e.number ≠ f.source.toNat) → s.peers.entries.length = 48 →
    (∀ v, IsVictim s.peers.entries v →
      ∃ before after, s.peers.entries.filter (fun e => e.number ≠ v.number) = before ++ after
        ∧ (∀ e ∈ before, e.number < f.source.toNat) ∧ (∀ e ∈ after, f.source.toNat < e.number)
        ∧ exec .takeStationReport s = .next
            (((s.withoutFront rest).setPeers { s.peers with
                entries := before
                  ++ EntryFrom f.source.toNat (membershipOf s.config f.source.toNat) 0 f b :: after }).noticed
              (decide (membershipOf s.config f.source.toNat = .inSector))))
    ∧ ((∀ e ∈ s.peers.entries, e.membership = .inSector ∧ e.freshness ≠ .lost) →
        ∃ t, exec .takeStationReport s = .next t
          ∧ LatchSet .tableFull ((s.withoutFront rest).setPeers { s.peers with
              tableRefusals := min 65535 (s.peers.tableRefusals + 1) }) t)
    ∧ ((∃ v, IsVictim s.peers.entries v)
        ∨ ∀ e ∈ s.peers.entries, e.membership = .inSector ∧ e.freshness ≠ .lost)

/-- TAKE_STATION_REPORT discards: a report with the own number latches NUMBER_CLASH before any other check; one from 0
or from a tool's number, and a malformed one, leaves every entry, counter and latch as it is (R9, R12, R13). A reply
that the latch's ALARM displaces sets REPLY_LOST, carried by that same ALARM (log 16). -/
def Obligations.ReportsDiscarded : Prop :=
  ∀ (f : Frame) (rest : List Frame) (s : State), StationOk s → AtFront .stationReport f rest s →
    (f.source.toNat = s.config.number →
      ∃ t, exec .takeStationReport s = .next t ∧ LatchSet .numberClash (s.withoutFront rest) t)
    ∧ (f.source.toNat = 0 ∨ (240 ≤ f.source.toNat ∧ f.source.toNat ≤ 254) →
        exec .takeStationReport s = .next (s.withoutFront rest))
    ∧ (f.source.toNat ≠ s.config.number →
        (f.groupCount ≠ 5#8 ∨ (f.senderRole ≠ 1#8 ∧ f.senderRole ≠ 2#8)
          ∨ (f.senderMode ≠ 1#8 ∧ f.senderMode ≠ 2#8)
          ∨ (f.senderRole = 1#8 ∧ 4 < (Group.c4 (f.group 3)).toNat)
          ∨ (f.senderRole = 1#8 ∧ (Group.high (f.group 0) = 0xFFFF#16 ∨ Group.low (f.group 0) = 0xFFFF#16
              ∨ Group.high (f.group 1) = 0xFFFF#16))
          ∨ (f.senderRole = 2#8
              ∧ (Group.high (f.group 0) = 0xFFFF#16 ∨ Group.low (f.group 0) = 0xFFFF#16))) →
        exec .takeStationReport s = .next (s.withoutFront rest))

/-- What the table takes from a well-formed report: present values above the upper end of their range are clamped to
it, margins to -3000 and 3000, a class above 3 is 3, a critical station that is none of 1 to 239 is absent, and
absent codes are absent (R7, R8, R9, R178). The free values of log 6 concern a class of 255 and an absent L
only. -/
def Obligations.ReportBodyRead : Prop :=
  (∀ f : Frame, f.groupCount = 5#8 → f.senderRole = 1#8 → f.senderMode = 1#8 ∨ f.senderMode = 2#8 →
    (Group.c4 (f.group 3)).toNat ≤ 4 → Group.high (f.group 0) ≠ 0xFFFF#16 →
    Group.low (f.group 0) ≠ 0xFFFF#16 → Group.high (f.group 1) ≠ 0xFFFF#16 →
    Group.high (f.group 3) ≠ 0xFFFF#16 → Group.c3 (f.group 3) ≠ 0xFF#8 →
    ∃ b p, readReport f = some b ∧ b.part = .transfer p ∧ (b.mode = .hold ↔ f.senderMode = 2#8)
      ∧ p.qr = min 20000 (Group.high (f.group 0)).toNat ∧ p.grant = min 20000 (Group.low (f.group 0)).toNat
      ∧ p.valve = min 10000 (Group.high (f.group 1)).toNat
      ∧ (Group.high (f.group 2) = 0x8000#16 → p.margin = none)
      ∧ (Group.high (f.group 2) ≠ 0x8000#16 →
          p.margin = some (max (-3000) (min 3000 (Group.high (f.group 2)).toInt)))
      ∧ p.cls = min 3 (Group.c3 (f.group 3)).toNat
      ∧ ShareOutcome.code p.outcome = Group.c4 (f.group 3)
      ∧ p.wide = (Group.c1 (f.group 4)).getLsbD 0 ∧ p.starved = (Group.c1 (f.group 4)).getLsbD 1
      ∧ p.localHand = (Group.c1 (f.group 4)).getLsbD 2 ∧ p.shed = (Group.c1 (f.group 4)).getLsbD 3
      ∧ b.isolated = (Group.c1 (f.group 4)).getLsbD 4
      ∧ ∀ k, k < 22 → b.word.getLsbD k = (f.group 4).getLsbD k)
    ∧ (∀ f : Frame, f.groupCount = 5#8 → f.senderRole = 2#8 → f.senderMode = 1#8 ∨ f.senderMode = 2#8 →
        Group.high (f.group 0) ≠ 0xFFFF#16 → Group.low (f.group 0) ≠ 0xFFFF#16 →
        ∃ b p, readReport f = some b ∧ b.part = .plant p ∧ (b.mode = .hold ↔ f.senderMode = 2#8)
          ∧ p.offer = min 20000 (Group.high (f.group 0)).toNat
          ∧ p.head = min 10000 (Group.low (f.group 0)).toNat
          ∧ (Group.high (f.group 1) = 0xFFFF#16 → p.flow = none)
          ∧ (Group.high (f.group 1) ≠ 0xFFFF#16 →
              p.flow = some (min 20000 (Group.high (f.group 1)).toNat))
          ∧ (∀ n, p.critical = some n ↔ (Group.high (f.group 3)).toNat = n ∧ 1 ≤ n ∧ n ≤ 239)
          ∧ (Group.low (f.group 2) = 0x8000#16 → p.criticalMargin = none)
          ∧ (Group.low (f.group 2) ≠ 0x8000#16 →
              p.criticalMargin = some (max (-3000) (min 3000 (Group.low (f.group 2)).toInt)))
          ∧ b.isolated = (Group.c1 (f.group 4)).getLsbD 0
          ∧ ∀ k, k < 22 → b.word.getLsbD k = (f.group 4).getLsbD k)

/-- TAKE_ALARM_FRAME: one from a peer with an entry replaces that entry's condition word and nothing else; one with no
entry, from 0 or a tool's number, or malformed changes nothing; one with the own number latches NUMBER_CLASH, even
if malformed (R22). A reply that the latch's ALARM displaces sets REPLY_LOST, carried by that same ALARM (log 16). -/
def Obligations.AlarmFrameReplacesWord : Prop :=
  ∀ (f : Frame) (rest : List Frame) (s : State), StationOk s → AtFront .alarm f rest s →
    (f.source.toNat = s.config.number →
      ∃ t, exec .takeAlarmFrame s = .next t ∧ LatchSet .numberClash (s.withoutFront rest) t)
    ∧ (f.source.toNat ≠ s.config.number → 1 ≤ f.source.toNat → f.source.toNat ≤ 239 →
        f.groupCount = 1#8 →
        exec .takeAlarmFrame s = .next ((s.withoutFront rest).setPeers { s.peers with
          entries := s.peers.entries.map (fun e =>
            if e.number = f.source.toNat then { e with word := (f.group 0).extractLsb' 0 22 } else e) }))
    ∧ (f.source.toNat ≠ s.config.number →
        f.source.toNat = 0 ∨ (240 ≤ f.source.toNat ∧ f.source.toNat ≤ 254) ∨ f.groupCount ≠ 1#8
          ∨ (∀ e ∈ s.peers.entries, e.number ≠ f.source.toNat) →
        exec .takeAlarmFrame s = .next (s.withoutFront rest))

/-! ### Commands -/

/-- A command is discarded before any check, without reply and without count: in JOINING; with the own number as
source, which latches NUMBER_CLASH; and a broadcast READ_VIEW, READ_COUNTERS, FORGET or RESTART (R162). A reply that
the latch's ALARM displaces sets REPLY_LOST, carried by that same ALARM (log 16). -/
def Obligations.CommandsDiscardedBeforeChecks : Prop :=
  ∀ (kind : Kind) (order : OfferOrder) (c : Instr) (f : Frame) (rest : List Frame)
    (s : State), StationOk s → commandEvent order kind = some c → AtFront kind f rest s →
    (s.control.mode = .joining → exec c s = .next (s.withoutFront rest))
      ∧ (s.speaking = true → f.source.toNat = s.config.number →
          ∃ t, exec c s = .next t ∧ LatchSet .numberClash (s.withoutFront rest) t)
      ∧ (s.speaking = true → f.source.toNat ≠ s.config.number → f.destination = 255#8 →
          kind ∈ [.readView, .readCounters, .forget, .restart] →
          exec c s = .next (s.withoutFront rest))

/-- The admission checks in their order, and the reason of the first that fails (R163, R164). -/
def Obligations.AdmissionChecksInOrder : Prop :=
  ∀ (kind : Kind) (order : OfferOrder) (c : Instr) (f : Frame) (s : State),
    commandEvent order kind = some c →
    let groups := match kind with
      | .limitBlock => 2
      | .limitCancel | .release | .restart | .readCounters => 0
      | _ => 1
    let tool := decide (240 ≤ f.source.toNat ∧ f.source.toNat ≤ 254)
    let malformed := f.groupCount.toNat ≠ groups
      ∨ (1 ≤ f.source.toNat ∧ f.source.toNat ≤ 239 ∧ f.senderRole ≠ 1#8 ∧ f.senderRole ≠ 2#8)
    let barred := kind.code ∈ s.config.barred
    let locked := s.measure.functionActive .maintLock = true ∧ s.config.lockEnable = true
      ∧ kind ∈ [.limitBlock, .limitCancel, .hold, .forget, .restart]
    let set := s.config.permissions.getD (kind.code.toNat - 4) 0#8
    let notPermitted := kind ≠ .readView ∧ kind ≠ .readCounters
      ∧ ¬ ((tool = true ∧ set.getLsbD 2 = true)
          ∨ (tool = false ∧ f.senderRole = 1#8 ∧ set.getLsbD 0 = true)
          ∨ (tool = false ∧ f.senderRole = 2#8 ∧ set.getLsbD 1 = true))
    let wrongRole := kind ∈ [.limitBlock, .limitCancel, .shed] ∧ s.isPlant = true
    let badValue :=
      (kind = .limitBlock ∧ ((Group.low (f.group 0)).toNat = 0
          ∨ ((Group.c1 (f.group 1)).toNat ≠ 1 ∧ (Group.c1 (f.group 1)).toNat ≠ 2
            ∧ (Group.c1 (f.group 1)).toNat ≠ 3)))
        ∨ (kind = .hold ∧ (Group.high (f.group 0)).toNat = 0)
        ∨ (kind = .forget ∧ (Group.c1 (f.group 0)).toNat = s.config.number)
    let noEntry := kind ∈ [.forget, .readView] ∧ (Group.c1 (f.group 0)).toNat ≠ s.config.number
      ∧ ∀ e ∈ s.peers.entries, e.number ≠ (Group.c1 (f.group 0)).toNat
    (malformed → admission kind f s = .malformed)
      ∧ (¬ malformed → barred → admission kind f s = .barred)
      ∧ (¬ malformed → ¬ barred → locked → admission kind f s = .locked)
      ∧ (¬ malformed → ¬ barred → ¬ locked → notPermitted → admission kind f s = .notPermitted)
      ∧ (¬ malformed → ¬ barred → ¬ locked → ¬ notPermitted → wrongRole → admission kind f s = .wrongRole)
      ∧ (¬ malformed → ¬ barred → ¬ locked → ¬ notPermitted → ¬ wrongRole → badValue →
          admission kind f s = .badValue)
      ∧ (¬ malformed → ¬ barred → ¬ locked → ¬ notPermitted → ¬ wrongRole → noEntry →
          admission kind f s = .noEntry)
      ∧ (¬ malformed → ¬ barred → ¬ locked → ¬ notPermitted → ¬ wrongRole → ¬ badValue → ¬ noEntry →
          admission kind f s = .accepted)

/-- A refused command of any kind changes nothing at any other block: COMMANDS_REFUSED is incremented and, if it was
addressed, the reply carries the reason (R163, R164, R165). -/
def Obligations.RefusedCommandChangesNothing : Prop :=
  ∀ (kind : Kind) (order : OfferOrder) (c : Instr) (f : Frame) (rest : List Frame)
    (reason : ReplyOutcome) (s : State), StationOk s → commandEvent order kind = some c →
    AtFront kind f rest s →
    GoesToChecks kind f s → admission kind f s = reason → reason ≠ .accepted →
    ∃ t, exec c s = .next t
      ∧ Answered f (shortReply f reason)
          ((s.withoutFront rest).setCommand { s.command with refused := min 65535 (s.command.refused + 1) }) t

/-- An admitted LIMIT_BLOCK becomes the active block of a unit that has none or a HELD one, and otherwise the pending
block; an admitted LIMIT_CANCEL empties both places; each is counted and answered (R70, R72, R77, R164). -/
def Obligations.LimitBlockAndCancelAtUnit : Prop :=
  (∀ (f : Frame) (rest : List Frame) (s : State), StationOk s → Admitted .limitBlock f rest s →
    ∃ b t, exec .limitBlock s = .next t
      ∧ b.limit = min 20000 (Group.high (f.group 0)).toNat ∧ b.duration = (Group.low (f.group 0)).toNat
      ∧ (b.mode = .single ↔ Group.c1 (f.group 1) = 1#8) ∧ (b.mode = .repeating ↔ Group.c1 (f.group 1) = 2#8)
      ∧ (b.mode = .chain ↔ Group.c1 (f.group 1) = 3#8)
      ∧ Answered f (shortReply f .accepted)
          ((s.withoutFront rest).acceptedOne.setLimit
            (if s.limit.active.isRunning = true then { s.limit with pendingBlock := some b }
             else { s.limit with
              active := .running b b.duration
              blockTimer := .running 10 })) t)
    ∧ ∀ (f : Frame) (rest : List Frame) (s : State), StationOk s →
        Admitted .limitCancel f rest s →
        ∃ t, exec .limitCancel s = .next t
          ∧ Answered f (shortReply f .accepted)
              ((s.withoutFront rest).acceptedOne.setLimit { s.limit with
                active := .none
                pendingBlock := none
                blockTimer := .stopped }) t

/-- An admitted SHED that applies to the own class replaces any shed and latches SHED_RECEIVED; one of duration 0 or
for less important classes ends any shed; it is counted and answered, the reply and the ALARM that the latch may
offer being offered in either order (R79, R157, R164; the order is an operand, log 7). Either offer may displace the
reply of a pending RESTART, whose reset then ends the event (R167; log 5). A reply that the latch's ALARM displaces
sets REPLY_LOST, carried by that same ALARM (log 16). -/
def Obligations.ShedAtUnit : Prop :=
  ∀ (order : OfferOrder) (f : Frame) (rest : List Frame) (s : State), StationOk s →
    Admitted .shed f rest s →
    let threshold := min 3 (Group.c1 (f.group 0)).toNat
    let duration := min 3600 (Group.low (f.group 0)).toNat
    let counted := (s.withoutFront rest).acceptedOne
    let off (m : State) := m.setLimit { s.limit with
      shed := .off
      shedTimer := .stopped }
    let inForce (m : State) := m.setLimit { s.limit with
      shed := .inForce threshold duration
      shedTimer := .running 10 }
    let reply := shortReply f .accepted
    (duration = 0 ∨ s.config.ownClass < threshold →
      ∃ t, exec (.shed order) s = .next t ∧ Answered f reply (off counted) t)
    ∧ (duration ≠ 0 → threshold ≤ s.config.ownClass → order = .alarmFirst →
      ∃ t, exec (.shed order) s = .next t
        ∧ (DisplacesRestart .shedReceived (inForce counted) → Restarted s t)
        ∧ (¬ DisplacesRestart .shedReceived (inForce counted) →
            ∃ m, AfterLatch .shedReceived (inForce counted) m ∧ Answered f reply m t))
    ∧ (duration ≠ 0 → threshold ≤ s.config.ownClass → order = .otherFirst →
      ∃ t, exec (.shed order) s = .next t
        ∧ (DropsReply f counted → DisplacesRestart .replyLost counted.oneReplyLost → Restarted s t)
        ∧ (¬ (DropsReply f counted ∧ DisplacesRestart .replyLost counted.oneReplyLost) →
            ∃ m, Answered f reply counted m ∧ LatchSet .shedReceived (inForce m) t))

/-- An admitted CLEAR_CONDITIONS clears exactly the latches its mask includes, and with INPUT_CHANGE the change latches
of all four inputs; no live condition, alarm-due, ALARM entry or counter but COMMANDS_ACCEPTED changes by the clear
(R146, R136). Where its own reply is dropped and sets REPLY_LOST, the clear or the setting is taken first, as a free
value says (R146, R157; log 7). -/
def Obligations.ClearConditionsClearsMask : Prop :=
  ∀ (f : Frame) (rest : List Frame) (s : State), StationOk s →
    Admitted .clearConditions f rest s →
    let counted := (s.withoutFront rest).acceptedOne
    let reply := shortReply f .accepted
    let Cleared (m m' : State) := ∃ latches,
      (∀ k, k < 14 → latches.getLsbD k = (m.condition.latches.getLsbD k && !(f.group 0).getLsbD k))
        ∧ m' = (m.setCondition { m.condition with latches := latches }).setMeasure
          (if (f.group 0).getLsbD 9 = true then
            { m.measure with inputs := m.measure.inputs.mapEach (fun v => { v with changed := false }) }
           else m.measure)
    let clearFirst (t : State) := ∃ m, Cleared counted m ∧ Answered f reply m t
    let settingFirst (t : State) :=
      (DisplacesRestart .replyLost counted.oneReplyLost → Restarted s t)
        ∧ (¬ DisplacesRestart .replyLost counted.oneReplyLost → ∃ m, Answered f reply counted m ∧ Cleared m t)
    ∃ t, exec .clearConditions s = .next t
      ∧ (¬ DropsReply f counted → clearFirst t) ∧ (DropsReply f counted → clearFirst t ∨ settingFirst t)

/-- An admitted HOLD enters HOLD, or re-arms the hold timer for the command's duration; an admitted RELEASE ends a hold
and is accepted with no effect in RUNNING; each is counted and answered, and READY stays high unless the lost reply brings
the reset of a pending RESTART (R140, R141, R142, R164, R167). -/
def Obligations.HoldAndRelease : Prop :=
  (∀ (f : Frame) (rest : List Frame) (s : State), StationOk s → Admitted .hold f rest s →
    ∃ t, exec .hold s = .next t ∧ (t.control.mode ≠ .starting → t.readyLine = true)
      ∧ Answered f (shortReply f .accepted)
          ((s.withoutFront rest).acceptedOne.setControl { s.control with
            mode := .hold
            holdTimer := .running (10 * min 3600 (Group.high (f.group 0)).toNat) }) t)
    ∧ ∀ (f : Frame) (rest : List Frame) (s : State), StationOk s →
        Admitted .release f rest s →
        ∃ t, exec .release s = .next t ∧ (t.control.mode ≠ .starting → t.readyLine = true)
          ∧ Answered f (shortReply f .accepted)
              ((s.withoutFront rest).acceptedOne.setControl { s.control with
                mode := .running
                holdTimer := .stopped }) t

/-- An admitted FORGET removes the entry of the named number and no other, gives a change notice if the entry was
counted, clears no counter and no latch, and is counted and answered (R26, R11). The notice is counted in the
model's trigger count (log 4). -/
def Obligations.ForgetRemovesEntry : Prop :=
  ∀ (f : Frame) (rest : List Frame) (s : State), StationOk s → Admitted .forget f rest s →
    ∃ e t, e ∈ s.peers.entries ∧ e.number = (Group.c1 (f.group 0)).toNat ∧ exec .forget s = .next t
      ∧ Answered f (shortReply f .accepted)
          (((s.withoutFront rest).acceptedOne.setPeers { s.peers with
              entries := s.peers.entries.filter (fun x => x.number ≠ e.number) }).noticed
            (decide (e.membership = .inSector ∧ e.freshness ≠ .lost))) t

/-- An admitted READ_COUNTERS is answered with the twelve counters in their order, COMMANDS_ACCEPTED counting it; an
admitted READ_VIEW with the entry of the named peer in P1 to P7, or with the own view: the own report body in D1 to D5,
the input status in D6, and the head record in D7 to D10 or the Allocation Record in the 160 bits of D7 to D11, with
FLOOR_APPLIED and nf in the first group; neither changes anything else. The flags that the view of a PLANT entry does not
hold are a free value, log 27, and so are the bits of the own view of a transfer station that no field has, log 29 (R121,
R136, R166, R174, R176, R180). -/
def Obligations.ReadsAnswered : Prop :=
  ([Membership.inSector, .outside].map Membership.code = [0#8, 1#8]
    ∧ [Freshness.fresh, .stale, .lost].map Freshness.code = [0#8, 1#8, 2#8]
    ∧ [PeerMode.running, .hold].map PeerMode.code = [1#8, 2#8]
    ∧ [ShareOutcome.full, .prorated, .cut, .isolated, .noOffer].map ShareOutcome.code = [0#8, 1#8, 2#8, 3#8, 4#8]
    ∧ [InputFunction.none, .localHand, .isolationClosed, .plantTrip, .maintLock].map InputFunction.code
        = [0#3, 1#3, 2#3, 3#3, 4#3]
    ∧ [HeadCase.none, .joining, .hold, .isolated, .noPeers, .starved, .proportional].map HeadCase.code
        = [0#8, 1#8, 2#8, 3#8, 4#8, 5#8, 6#8]
    ∧ (u16Opt none = 0xFFFF#16 ∧ s16Opt none = 0x8000#16 ∧ u20Opt none = 0xFFFFF#20))
  ∧ ∀ (f : Frame) (rest : List Frame) (s : State), StationOk s →
    let reply (tail : Byte) (data : List Group) : Reply :=
      ⟨f.source, f.sequence, byteGroup f.kind f.sequence 0#8 tail :: data, false⟩
    let counted := (s.withoutFront rest).acceptedOne
    let named := (Group.c1 (f.group 0)).toNat
    let inputs (last : Byte) : Group :=
      let six (v : Input) (g : InputFunction) : BitVec 6 :=
        g.code ++ bit (decide (v.raw = .high)) ++ bit v.active ++ bit v.changed
      six s.measure.inputs.in0 s.measure.functions.in0 ++ six s.measure.inputs.in1 s.measure.functions.in1
        ++ six s.measure.inputs.in2 s.measure.functions.in2 ++ six s.measure.inputs.in3 s.measure.functions.in3 ++ last
    let a := s.share.record
    (Admitted .readCounters f rest s →
      ∃ t, exec .readCounters s = .next t
        ∧ Answered f
            (reply 0#8
              [ pairGroup (u16 s.line.goodFrames) (u16 s.line.correctedGroups),
                pairGroup (u16 s.line.damagedFrames) (u16 s.line.rxOverruns),
                pairGroup (u16 s.line.collisions) (u16 s.line.abandoned),
                pairGroup (u16 s.line.repliesLost) (u16 s.peers.duplicates),
                pairGroup (u16 s.peers.outOfOrder) (u16 s.peers.tableRefusals),
                pairGroup (u16 (min 65535 (s.command.accepted + 1))) (u16 s.command.refused) ])
            counted t)
    ∧ (Admitted .readView f rest s → named ≠ s.config.number →
      ∃ e t, ∃ flags : BitVec 4, e ∈ s.peers.entries ∧ e.number = named ∧ exec .readView s = .next t
        ∧ (∀ p, e.part = .transfer p → Answered f
            (reply 0#8
              [ byteGroup (u8 e.number) 1#8 e.membership.code e.freshness.code,
                pairGroup (u16 e.age) (u16 e.acceptedCount),
                byteGroup e.lastSequence e.peerMode.code (u8 p.cls) p.outcome.code,
                wordGroup (0#3 ++ bit p.shed ++ bit p.localHand ++ bit p.starved ++ bit p.wide ++ bit e.isolated) e.word,
                pairGroup (u16 p.qr) (u16 p.grant), pairGroup (u16 p.valve) (s16Opt p.margin), 0#32 ])
            counted t)
        ∧ (∀ p, e.part = .plant p → Answered f
            (reply 0#8
              [ byteGroup (u8 e.number) 2#8 e.membership.code e.freshness.code,
                pairGroup (u16 e.age) (u16 e.acceptedCount),
                byteGroup e.lastSequence e.peerMode.code 0#8 0#8,
                wordGroup (0#3 ++ flags ++ bit e.isolated) e.word,
                pairGroup (u16 p.offer) (u16 p.head), pairGroup (u16Opt p.flow) (s16Opt p.criticalMargin),
                pairGroup (u16Opt p.critical) 0#16 ])
            counted t))
    ∧ (Admitted .readView f rest s → named = s.config.number → s.isPlant = true →
      ∃ t, exec .readView s = .next t
        ∧ Answered f
            (reply 0#8 (reportBody s
              ++ [ inputs 0#8, pairGroup (u16 s.band.lo) (u16 s.band.hi),
                byteGroup s.head.headCase.code (u8 s.head.eligible) (u8 s.head.starvedEligible) 0#8,
                pairGroup (s16 s.head.lastMovement) (u16Opt s.head.offerBasis),
                pairGroup (u16Opt s.measure.dpf) 0#16 ]))
            counted t)
    ∧ (Admitted .readView f rest s → named = s.config.number → s.isTransfer = true →
      ∃ d7 d8 d9 d10 d11 t, ∃ (spare1 : BitVec 1) (spare2 : BitVec 2), exec .readView s = .next t
        ∧ d7 ++ d8 ++ d9 ++ d10 ++ d11
            = (BitVec.ofNat 20 a.capacity ++ u20Opt a.s0 ++ u20Opt a.s1 ++ u20Opt a.s2 ++ u20Opt a.s3
                ++ u20Opt a.remainder ++ u16 a.requestUsed ++ u16Opt a.ownShare ++ BitVec.ofNat 6 a.stalePlants
                ++ 0#2 : BitVec 160)
        ∧ Answered f
            (reply (bit a.floorApplied ++ spare1 ++ BitVec.ofNat 6 a.freshPlants)
              (reportBody s ++ [inputs (spare2 ++ BitVec.ofNat 6 a.transferPeers), d7, d8, d9, d10, d11]))
            counted t)

/-! ### The Limit Unit's timers -/

/-- BLOCK_TIMER_EXPIRY and SHED_TIMER_EXPIRY: the remaining seconds count down; at the active expiry a pending block
is promoted, or the mode of the ending block restarts it, ends it, or holds it with PROFILE_GAP latched; the last
second of a shed ends it (R74, R75, R76, R80). That a timer that does not run does nothing is the model's (log 1). A
reply that the latch's ALARM displaces sets REPLY_LOST, carried by that same ALARM (log 16). -/
def Obligations.LimitTimersCountDown : Prop :=
  ∀ s : State, StationOk s →
    (∀ b n, s.limit.active = .running b (n + 2) →
      exec .blockTimerExpiry s = .next (s.setLimit { s.limit with active := .running b (n + 1) }))
    ∧ (∀ b p, s.limit.active = .running b 1 → s.limit.pendingBlock = some p →
      exec .blockTimerExpiry s = .next (s.setLimit { s.limit with
        active := .running p p.duration
        pendingBlock := none
        blockTimer := .running 10 }))
    ∧ (∀ b, s.limit.active = .running b 1 → s.limit.pendingBlock = none →
      (b.mode = .repeating → exec .blockTimerExpiry s = .next (s.setLimit { s.limit with
          active := .running b b.duration
          blockTimer := .running 10 }))
        ∧ (b.mode = .single → exec .blockTimerExpiry s = .next (s.setLimit { s.limit with
            active := .none
            blockTimer := .stopped }))
        ∧ (b.mode = .chain → ∃ t, exec .blockTimerExpiry s = .next t
            ∧ LatchSet .profileGap (s.setLimit { s.limit with
                active := .held b
                blockTimer := .stopped }) t))
    ∧ (s.limit.active.isRunning = false → exec .blockTimerExpiry s = .next s)
    ∧ (∀ threshold n, s.limit.shed = .inForce threshold (n + 2) →
        exec .shedTimerExpiry s = .next (s.setLimit { s.limit with shed := .inForce threshold (n + 1) }))
    ∧ (∀ threshold, s.limit.shed = .inForce threshold 1 →
        exec .shedTimerExpiry s = .next (s.setLimit { s.limit with
          shed := .off
          shedTimer := .stopped }))
    ∧ (s.limit.shed = .off → exec .shedTimerExpiry s = .next s)

/-! ### RESTART -/

/-- An admitted RESTART is counted and its reply queued, and nothing else happens then; the reset takes effect in the
event in which that reply leaves the Transmit Queue: sent, abandoned, dropped for want of room, or displaced by an
ALARM, shown here for HOLD_TIMER_EXPIRY and said of every event that sets a latch by LatchSet in its own statement (R162,
R165, R167, R168, R169). The state it leaves rests on the model's V and H (log 2), the end of the event as its moment (log
5), the levels sampled (log 19) and the emptied lanes (log 23). -/
def Obligations.RestartTakesEffectWhenReplyLeaves : Prop :=
  (∀ (f : Frame) (rest : List Frame) (s : State), StationOk s → Admitted .restart f rest s →
    (s.line.txCount < 6 ∨ s.line.waiting.any TxEntry.isReport = true →
      ∃ t, exec .restart s = .next t
        ∧ Answered f ⟨f.source, f.sequence, [byteGroup f.kind f.sequence 0#8 0#8], true⟩
            (s.withoutFront rest).acceptedOne t)
    ∧ (6 ≤ s.line.txCount → s.line.waiting.any TxEntry.isReport = false →
        ∃ t, exec .restart s = .next t ∧ Restarted s t))
  ∧ (∀ (choice : ChoiceOrder) (order : OfferOrder) (r : Reply) (s : State), StationOk s →
      s.line.inFlight = some (.reply r) → r.restart = true →
      (s.line.lineState = .ownTransmit → ∃ t, exec (.entrySent choice order) s = .next t ∧ Restarted s t)
        ∧ (s.line.lineState = .jam → s.line.attempts = 8 →
            ∃ t, exec (.jamEnd choice order) s = .next t ∧ Restarted s t))
  ∧ ∀ (older : List TxEntry) (r : Reply) (s : State), StationOk s → s.control.mode = .hold →
      s.urgent .holdExpired = true → s.latched .holdExpired = false → s.line.holdsAlarm = false →
      s.line.txCount = 6 → s.line.waiting = older ++ [.reply r] → older.any TxEntry.isReport = false →
      r.restart = true → ∃ t, exec .holdTimerExpiry s = .next t ∧ Restarted s t

/-! ### The Report Scheduler's timers -/

/-- REPORT_INTERVAL_EXPIRY sets report-due, unless a waiting REPORT absorbs it and the timer is restarted;
SPACING_TIMER_EXPIRY turns a waiting report-due into a report (R39, R41, R42, R43). That a timer that does not run does
nothing is the model's (log 1). -/
def Obligations.ReportTimers : Prop :=
  ∀ s : State, StationOk s →
    (s.reports.intervalTimer.isRunning = true → s.line.absorbsReport = true →
      exec .reportIntervalExpiry s = .next (s.setReports { s.reports with
        intervalTimer := .running (10 * s.config.reportInterval) }))
    ∧ (s.reports.intervalTimer.isRunning = true → s.line.absorbsReport = false →
        ∃ t, exec .reportIntervalExpiry s = .next t
          ∧ AfterReportDue (s.setReports { s.reports with intervalTimer := .stopped }) t)
    ∧ (s.reports.intervalTimer.isRunning = false → exec .reportIntervalExpiry s = .next s)
    ∧ (s.reports.spacingTimer.isRunning = true → s.reports.reportDue = true →
        ∃ t, exec .spacingTimerExpiry s = .next t
          ∧ AfterReportDue (s.setReports { s.reports with spacingTimer := .stopped }) t)
    ∧ (s.reports.spacingTimer.isRunning = true → s.reports.reportDue = false →
        exec .spacingTimerExpiry s = .next (s.setReports { s.reports with spacingTimer := .stopped }))
    ∧ (s.reports.spacingTimer.isRunning = false → exec .spacingTimerExpiry s = .next s)

/-! ### Measurements and inputs -/

/-- SAMPLE_RECORD: a complete record of the own field set, Ts, Tr, Q, DP, Vf, Qb or Ts, Tr, Q, DP, Qavail, moves every
field of the set by its judgement against its fixed range, DPf by the filter and a plant's offer, and restarts the sample
timer, in JOINING, RUNNING and HOLD; any other record, and SAMPLE_RECORD_BROKEN, changes nothing (R124, R125, R126, R131,
R108, R109, R174, R181). That a list of characters of another
length or with another lead character is no record and changes nothing is the model's (log 9). -/
def Obligations.SampleRecordMovesFields : Prop :=
  ∀ (characters : List Byte) (s : State), StationOk s →
    let own := if s.isPlant = true then 2#8 else 1#8
    let set : List (FieldName × Nat) :=
      if s.isPlant = true then [(.ts, 3000), (.tr, 3000), (.q, 20000), (.dp, 10000), (.qavail, 20000)]
      else [(.ts, 3000), (.tr, 3000), (.q, 20000), (.dp, 10000), (.vf, 10000), (.qb, 20000)]
    let complete := characters.length = (if s.isPlant = true then 17 else 20)
      ∧ characters.head? = some 0x55#8 ∧ characters[1]? = some own
    (s.active = true → complete →
      ∃ t, exec (.sampleRecord characters) s = .next t ∧ Unchanged [.measure, .head] s t
        ∧ t.measure.inputs = s.measure.inputs ∧ t.measure.functions = s.measure.functions
        ∧ t.measure.sampleTimer = .running s.config.sampleTimeout
        ∧ (∀ n, (∀ top, (n, top) ∉ set) → t.measure.fields.get n = s.measure.fields.get n)
        ∧ (∀ k n top v, set[k]? = some (n, top) →
            v = 256 * (characters.getD (2 + 3 * k) 0#8).toNat + (characters.getD (3 + 3 * k) 0#8).toNat →
            let before := s.measure.fields.get n
            let after := t.measure.fields.get n
            let good := characters.getD (4 + 3 * k) 0#8 = 0#8 ∧ v ≤ top
            (good → after = ⟨some v, .good, .stopped⟩)
              ∧ (¬ good → before.state = .good →
                  after = ⟨before.value, .held, .running (10 * s.config.holdTime)⟩)
              ∧ (¬ good → before.state ≠ .good → after = before))
        ∧ (t.measure.fields.dp.state = .absent → t.measure.dpf = none)
        ∧ (t.measure.fields.dp.state = .held → t.measure.dpf = s.measure.dpf)
        ∧ (∀ v, t.measure.fields.dp.state = .good → t.measure.fields.dp.value = some v →
            (s.measure.dpf = none → t.measure.dpf = some v)
              ∧ ∀ p, s.measure.dpf = some p → ∃ p', t.measure.dpf = some p'
                  ∧ (p' : Int) = p + Int.tdiv (((v : Int) - p) * s.config.filterA) 16
                  ∧ (p ≤ p' ∧ p' ≤ v ∨ v ≤ p' ∧ p' ≤ p))
        ∧ (s.isPlant = false → t.head = s.head)
        ∧ (s.isPlant = true →
            t.head = { s.head with offer := t.head.offer, offerBasis := t.head.offerBasis }
              ∧ (s.trip = true ∨ t.reading .qavail = none → t.head.offer = 0 ∧ t.head.offerBasis = none)
              ∧ (s.trip = false → ∀ q, t.reading .qavail = some q →
                  t.head.offer = q * (1000 - s.config.reserve) / 1000 ∧ t.head.offerBasis = some q)))
    ∧ (s.active = false ∨ ¬ complete → exec (.sampleRecord characters) s = .next s)
    ∧ exec .sampleRecordBroken s = .next s

/-- SAMPLE_TIMER_EXPIRY: SAMPLE_MISSING is latched, every GOOD field becomes HELD and the timer stops;
FIELD_HOLD_TIMER_EXPIRY: the field becomes ABSENT, with DPf for DP and the offer for Qavail, and FIELD_ABSENT is
latched (R127, R128, R109). That a timer that does not run does nothing is the model's (log 1). A reply that the
latch's ALARM displaces sets REPLY_LOST, carried by that same ALARM (log 16). -/
def Obligations.SampleAndHoldTimers : Prop :=
  ∀ s : State, StationOk s →
    (s.measure.sampleTimer.isRunning = true →
      ∃ fields t, exec .sampleTimerExpiry s = .next t
        ∧ (∀ n, ((s.measure.fields.get n).state = .good →
              Fields.get fields n =
                ⟨(s.measure.fields.get n).value, .held, .running (10 * s.config.holdTime)⟩)
            ∧ ((s.measure.fields.get n).state ≠ .good → Fields.get fields n = s.measure.fields.get n))
        ∧ LatchSet .sampleMissing
            (s.setMeasure { s.measure with
              fields := fields
              sampleTimer := .stopped }) t)
    ∧ (s.measure.sampleTimer.isRunning = false → exec .sampleTimerExpiry s = .next s)
    ∧ ∀ n, ((s.measure.fields.get n).state = .held →
        ∃ t, exec (.fieldHoldTimerExpiry n) s = .next t
          ∧ LatchSet .fieldAbsent
              ((s.setMeasure { s.measure with
                  fields := s.measure.fields.set n ⟨none, .absent, .stopped⟩
                  dpf := if n = .dp then none else s.measure.dpf }).setHead
                (if n = .qavail then { s.head with offer := 0, offerBasis := none } else s.head)) t)
      ∧ ((s.measure.fields.get n).state ≠ .held → exec (.fieldHoldTimerExpiry n) s = .next s)

/-- RAW_LEVEL_CHANGE: a watched input's debounce timer starts when the new raw state differs from the debounced one,
or the change is recognised at once with debounce 0, and stops when it equals it; an input that is not watched only
follows its pin. DEBOUNCE_TIMER_EXPIRY recognises the change (R133, R134). That a level equal to the one the pin has, and
a debounce timer that does not run, change nothing is the model's (log 1). A reply that the latch's ALARM displaces
sets REPLY_LOST, carried by that same ALARM (log 16). -/
def Obligations.InputChangesAreDebounced : Prop :=
  ∀ (i : InputName) (level : Level) (s : State), StationOk s →
    let v := s.measure.inputs.get i
    let with_ (v' : Input) := s.setMeasure { s.measure with inputs := s.measure.inputs.set i v' }
    let rawState := decide (level = activeLevel s.config i)
    (level = v.raw → exec (.rawLevelChange i level) s = .next s)
    ∧ (level ≠ v.raw → s.active = false →
        exec (.rawLevelChange i level) s = .next (with_ { v with raw := level }))
    ∧ (level ≠ v.raw → s.active = true →
        (rawState = v.active → exec (.rawLevelChange i level) s = .next (with_ { v with
            raw := level
            debounceTimer := .stopped }))
          ∧ (rawState ≠ v.active → s.config.debounce ≠ 0 →
              exec (.rawLevelChange i level) s = .next (with_ { v with
                raw := level
                debounceTimer := .running s.config.debounce }))
          ∧ (rawState ≠ v.active → s.config.debounce = 0 →
              ∃ t, exec (.rawLevelChange i level) s = .next t
                ∧ Recognised i (with_ { v with raw := level }) t))
    ∧ (v.debounceTimer.isRunning = true →
        ∃ t, exec (.debounceTimerExpiry i) s = .next t ∧ Recognised i s t)
    ∧ (v.debounceTimer.isRunning = false → exec (.debounceTimerExpiry i) s = .next s)

/-! ### The line -/

/-- The line and silence: a start bit ends IDLE; LINE_IDLE makes the line IDLE, the next character is tested and a
frame in progress ends as broken off; a break counts a collision and ends a frame in progress, but not the end of
the own jam; the marker begins a frame and any other first character is skipped; the silence timer's expiry makes
the station ISOLATED (R152, R153, R154, R159, R160, R161). That an event changes nothing where its condition does not hold
is log 1; log 13 says what the conditions leave open. A reply that the latch's ALARM displaces sets REPLY_LOST,
carried by that same ALARM (log 16). -/
def Obligations.LineEvents : Prop :=
  ∀ (character : Byte) (s : State), StationOk s →
    let u := s.line
    let hears := s.active = true ∧ (u.lineState = .idle ∨ u.lineState = .busy)
    (u.lineState = .idle → exec .startBitHeard s = .next (s.setLine { u with lineState := .busy }))
    ∧ (u.lineState ≠ .idle → exec .startBitHeard s = .next s)
    ∧ (s.active = true → u.lineState = .busy →
        (u.receiver.inFrame = false → exec .lineIdle s = .next (s.setLine { u with
            lineState := .idle
            receiver := .testing }))
          ∧ (u.receiver.inFrame = true →
              let broken := s.setLine { u with
                receiver := .skipping
                damagedFrames := min 65535 (u.damagedFrames + 1) }
              (DisplacesRestart .damagedSeen broken → ∃ t, exec .lineIdle s = .next t ∧ Restarted s t)
                ∧ (¬ DisplacesRestart .damagedSeen broken →
                    ∃ m, exec .lineIdle s = .next (m.setLine { m.line with
                        lineState := .idle
                        receiver := .testing })
                      ∧ AfterLatch .damagedSeen broken m)))
    ∧ (s.active = false ∨ u.lineState ≠ .busy → exec .lineIdle s = .next s)
    ∧ (hears → exec (.breakDetected false) s = .next (s.setLine { u with
        lineState := .busy
        receiver := if u.receiver.inFrame = true then .skipping else u.receiver
        collisions := min 65535 (u.collisions + 1) }))
    ∧ exec (.breakDetected true) s = .next s
    ∧ (¬ hears → exec (.breakDetected false) s = .next s)
    ∧ (hears → u.receiver = .testing →
        exec (.markerReceived character) s = .next (s.setLine { u with
          lineState := .busy
          receiver := if character = 0x3C#8 then .gathering [] else .skipping }))
    ∧ (¬ hears ∨ u.receiver ≠ .testing → exec (.markerReceived character) s = .next s)
    ∧ (u.silenceTimer.isRunning = true → exec .silenceTimerExpiry s = .next (s.setLine { u with
        isolated := true
        silenceTimer := .stopped }))
    ∧ (u.silenceTimer.isRunning = false → exec .silenceTimerExpiry s = .next s)

/-- The groups of a frame in progress: a good group is gathered while more are announced; a damaged group or an
invalid header discards the frame with DAMAGED_SEEN; the last announced group makes a well-formed frame, which
restarts silence, and if it is a good frame is counted and, but for a REPLY, joins the Receive Queue or is lost
with RX_OVERRUN (R153, R154, R155, R156, R161). A reply that the latch's ALARM displaces sets REPLY_LOST, carried by
that same ALARM (log 16). -/
def Obligations.GroupsMakeFrames : Prop :=
  ∀ (raw : RawGroup) (s : State), StationOk s →
    (∀ c groups, GathersTo s raw c groups →
      (groups.length = 1 ∨ ∃ h1 h2 body, groups = h1 :: h2 :: body ∧ body.length < (Group.c1 h2).toNat
          ∧ (Group.c1 h2).toNat ≤ 12 ∧ Group.c2 h1 ≠ 0#8 ∧ Group.c2 h1 ≠ 255#8) →
      exec (.groupComplete raw) s = .next (s.setLine { s.line.corrected c with
        receiver := .gathering groups }))
    ∧ (s.line.receiver.inFrame = true → decodeGroup raw = .damaged →
        ∃ t, exec (.frameDiscarded raw) s = .next t
          ∧ LatchSet .damagedSeen (s.setLine { s.line with
              receiver := .skipping
              damagedFrames := min 65535 (s.line.damagedFrames + 1) }) t)
    ∧ (∀ c h1 h2, GathersTo s raw c [h1, h2] →
        Group.c2 h1 = 0#8 ∨ Group.c2 h1 = 255#8 ∨ 13 ≤ (Group.c1 h2).toNat →
        ∃ t, exec (.frameDiscarded raw) s = .next t
          ∧ LatchSet .damagedSeen (s.setLine { s.line.corrected c with
              receiver := .skipping
              damagedFrames := min 65535 (s.line.damagedFrames + 1) }) t)
    ∧ ∀ c h1 h2 body, GathersTo s raw c (h1 :: h2 :: body) → body.length = (Group.c1 h2).toNat →
        (Group.c1 h2).toNat ≤ 12 → Group.c2 h1 ≠ 0#8 → Group.c2 h1 ≠ 255#8 →
        let u := { s.line.corrected c with
          receiver := .skipping
          silenceTimer := .running (10 * s.config.silenceTime)
          isolated := false }
        let counted := { u with goodFrames := min 65535 (u.goodFrames + 1) }
        let kind := (Group.c3 h1).toNat
        let good := 1 ≤ kind ∧ kind ≤ 13
          ∧ ((Group.c1 h1).toNat = s.config.number ∨ Group.c1 h1 = 255#8)
        let f : Frame := ⟨Group.c1 h1, Group.c2 h1, Group.c3 h1, Group.c4 h1, Group.c1 h2, Group.c2 h2,
          Group.c3 h2, Group.c4 h2, body⟩
        (¬ good → exec (.frameReceived raw) s = .next (s.setLine u))
          ∧ (good → kind = 3 → exec (.frameReceived raw) s = .next (s.setLine counted))
          ∧ (good → kind ≠ 3 → s.line.rxQueue.length < 8 →
              exec (.frameReceived raw) s = .next (s.setLine { counted with rxQueue := s.line.rxQueue ++ [f] }))
          ∧ (good → kind ≠ 3 → s.line.rxQueue.length = 8 →
              ∃ t, exec (.frameReceived raw) s = .next t
                ∧ LatchSet .rxOverrun
                    (s.setLine { counted with rxOverruns := min 65535 (counted.rxOverruns + 1) }) t)

/-- ATTEMPT_START on an IDLE line: the frame of the in-flight entry goes on the line with the values as they stand; a
REPORT takes its sequence number, START flag and snapshot at its first attempt start, an ALARM its sequence number,
and later attempts take none (R32, R35 to R38, R150, R159, R165). The report body holds every value of its role in its
place, and the snapshot its values (R33, R34, R38, R178). The characters of a frame are the marker and, group by group,
its four characters and their check character (R174 to R176). The characters kept in `sending` are the model's view of the
line (log 23), and that the event otherwise changes nothing is the model's (log 1). -/
def Obligations.AttemptStartSendsFrame : Prop :=
  (∀ f : Frame, f.characters =
    0x3C#8 :: ([ f.destination ++ f.source ++ f.kind ++ f.sequence,
        f.groupCount ++ f.flags ++ f.senderRole ++ f.senderMode ] ++ f.body).flatMap (fun g : Group =>
      [g.extractLsb' 24 8, g.extractLsb' 16 8, g.extractLsb' 8 8, g.extractLsb' 0 8, checkCharacter g]))
  ∧ ∀ s : State, StationOk s →
    let mode := if s.control.mode = .hold then 2#8 else 1#8
    let own := BitVec.ofNat 8 s.config.number
    let role := if s.isPlant = true then 2#8 else 1#8
    let report (sequence : Byte) (start : Bool) : Frame :=
      ⟨255#8, own, 1#8, sequence, 5#8, if start = true then 1#8 else 0#8, role, mode, reportBody s⟩
    let alarm (sequence : Byte) : Frame :=
      ⟨255#8, own, 2#8, sequence, 1#8, 0#8, role, mode, [0#8 ++ (0#2 ++ s.conditionWord)]⟩
    let sends (e : TxEntry) (f : Frame) (s' : State) : State := s'.setLine { s.line with
      lineState := .ownTransmit
      inFlight := some e
      sending := f.characters }
    (s.line.lineState = .idle →
      (∀ sequence start, s.line.inFlight = some (.report (some (sequence, start))) →
        exec .attemptStart s =
          .next (sends (.report (some (sequence, start))) (report sequence start) s))
      ∧ (s.line.inFlight = some (.report none) →
          let start := decide (s.reports.startCountdown ≠ 0)
          exec .attemptStart s =
            .next (sends (.report (some (s.reports.sequence, start))) (report s.reports.sequence start)
              (s.setReports { s.reports with
                sequence := s.reports.sequence + 1#8
                startCountdown := s.reports.startCountdown - 1
                snapshot := some (presentSnapshot s) })))
      ∧ (∀ sequence, s.line.inFlight = some (.alarm (some sequence)) →
          exec .attemptStart s = .next (sends (.alarm (some sequence)) (alarm sequence) s))
      ∧ (s.line.inFlight = some (.alarm none) →
          let sequence := s.condition.alarmSequence
          exec .attemptStart s = .next (sends (.alarm (some sequence)) (alarm sequence)
            (s.setCondition { s.condition with alarmSequence := sequence + 1#8 })))
      ∧ ∀ r, s.line.inFlight = some (.reply r) →
          exec .attemptStart s = .next (sends (.reply r)
            ⟨r.destination, own, 3#8, r.sequence, BitVec.ofNat 8 r.groups.length, 0#8, role, mode, r.groups⟩ s))
    ∧ (s.line.lineState ≠ .idle ∨ s.line.inFlight = none → exec .attemptStart s = .next s)
    ∧ (s.isTransfer = true →
        reportBody s =
          [ pairGroup (u16 s.valve.qr) (u16 s.share.record.grant),
            pairGroup (u16 s.valve.command) (u16Opt (s.reading .q)),
            pairGroup (s16Opt s.valve.margin) (s16Opt s.valve.lastDt),
            u16 s.valve.limiter ++ u8 s.config.ownClass ++ s.share.record.outcome.code,
            wordGroup (0#3 ++ bit s.line.isolated ++ bit s.limit.shedInForce ++ bit s.valve.localHand
              ++ bit s.valve.starved ++ bit s.valve.wide) s.conditionWord ]
        ∧ presentSnapshot s = .transfer s.valve.qr s.valve.wide s.valve.starved s.valve.localHand s.limit.shedInForce
            s.line.isolated s.share.record.outcome s.conditionWord)
    ∧ (s.isPlant = true →
        reportBody s =
          [ pairGroup (u16 s.head.offer) (u16 s.head.setpoint),
            pairGroup (u16Opt (s.reading .q)) (u16Opt (s.reading .ts)),
            pairGroup (u16Opt (s.reading .tr)) (s16Opt s.head.criticalMargin),
            pairGroup (u16Opt s.head.critical) 0#16,
            wordGroup (0#6 ++ bit (s.measure.functionActive .plantTrip) ++ bit s.line.isolated) s.conditionWord ]
        ∧ presentSnapshot s = .plant s.head.offer s.line.isolated (s.measure.functionActive .plantTrip) s.conditionWord)

/-- COLLISION ends the attempt in a jam, counted; at JAM_END after fewer than eight attempts the window doubles up to
128, a holdoff below it is drawn, and the same entry waits again (R160; the draw is a free value, log 3). That out of their
line state both change nothing is the model's (log 1). -/
def Obligations.CollisionJamsAndRetries : Prop :=
  ∀ (choice : ChoiceOrder) (order : OfferOrder) (s : State), StationOk s →
    (s.line.lineState = .ownTransmit → exec .collision s = .next (s.setLine { s.line with
        lineState := .jam
        sending := []
        collisions := min 65535 (s.line.collisions + 1)
        attempts := s.line.attempts + 1 }))
    ∧ (s.line.lineState ≠ .ownTransmit → exec .collision s = .next s)
    ∧ (s.line.lineState = .jam → s.line.attempts < 8 →
        ∃ h, h < min (2 * s.line.window) 128
          ∧ exec (.jamEnd choice order) s = .next (s.setLine { s.line with
              lineState := .busy
              window := min (2 * s.line.window) 128
              holdoff := some h
              draws := s.line.draws + 1 }))
    ∧ (s.line.lineState ≠ .jam → exec (.jamEnd choice order) s = .next s)

/-- ENTRY_SENT, and JAM_END after the eighth attempt, of an entry that is not the reply of a RESTART: the in-flight entry
departs and the line is BUSY; an abandoned one is counted in ABANDONED and latches TX_ABANDON, which calls for an ALARM if
it is urgent and was clear (R44, R148, R149, R158, R160). With latchFirst that latch and its ALARM come before the departure
and find the queue as it stood, where the ALARM may displace a REPORT or a REPLY (R43, R157). The orders are the model's
operands (log 7, log 15, log 16 for a displaced reply), and the model's are the attempt count and the window with nothing
in flight (log 8) and that ENTRY_SENT changes nothing out of OWN_TRANSMIT (log 1). -/
def Obligations.DepartureFreesLine : Prop :=
  ∀ (choice : ChoiceOrder) (order : OfferOrder) (e : TxEntry) (s : State), StationOk s →
    s.line.inFlight = some e → e.marked = false →
    (s.line.lineState = .ownTransmit →
      ∃ t, exec (.entrySent choice order) s = .next t
        ∧ Departed choice order false e (s.setLine { s.line with
            lineState := .busy
            sending := [] }) t)
    ∧ (s.line.lineState ≠ .ownTransmit → exec (.entrySent choice order) s = .next s)
    ∧ (let counted := s.setLine { s.line with
          lineState := .busy
          abandoned := min 65535 (s.line.abandoned + 1) }
       s.line.lineState = .jam → s.line.attempts = 8 →
        (choice ≠ .latchFirst →
          ∃ m t, exec (.jamEnd choice order) s = .next t
            ∧ Departed choice order (!s.latched .txAbandon && s.urgent .txAbandon) e counted m
            ∧ t = m.setCondition { m.condition with latches := t.condition.latches }
            ∧ t.latched .txAbandon = true ∧ ∀ l, l ≠ .txAbandon → t.latched l = s.latched l)
        ∧ (choice = .latchFirst →
          ∃ t, exec (.jamEnd choice order) s = .next t
            ∧ (DisplacesRestart .txAbandon counted → Restarted s t)
            ∧ (¬ DisplacesRestart .txAbandon counted →
                ∃ m, AfterLatch .txAbandon counted m ∧ Departed choice order false e m t)))

/-! ### Formats -/

/-- The check character of a group makes every position check and the overall parity even, with a zero eighth bit; and
a group received is judged by its eighth bit, its overall parity and its syndrome as the table says (R175). -/
def Obligations.CheckCharacterFollowsTable : Prop :=
  (∀ g : Group, (∀ i, i < 6 → onesAt g (checkCharacter g) i % 2 = 0)
      ∧ onesOverall g (checkCharacter g) % 2 = 0 ∧ (checkCharacter g).getLsbD 7 = false)
    ∧ ∀ (raw : RawGroup) (syndrome : Nat), raw.framingError = false → syndrome < 64 →
        let g := byteGroup raw.c1 raw.c2 raw.c3 raw.c4
        (∀ i, i < 6 → syndrome.testBit i = decide (onesAt g raw.check i % 2 = 1)) →
        (raw.check.getLsbD 7 = true → decodeGroup raw = .damaged)
          ∧ (raw.check.getLsbD 7 = false → onesOverall g raw.check % 2 = 0 →
              (syndrome = 0 → decodeGroup raw = .clean g)
                ∧ (syndrome ≠ 0 → decodeGroup raw = .damaged))
          ∧ (raw.check.getLsbD 7 = false → onesOverall g raw.check % 2 = 1 →
              (syndrome = 0 → decodeGroup raw = .corrected g)
                ∧ (1 ≤ syndrome → syndrome ≤ 38 → ∃ g', decodeGroup raw = .corrected g'
                    ∧ ∀ p, 1 ≤ p → p ≤ 38 → p ∉ [1, 2, 4, 8, 16, 32] →
                        codewordBit g' raw.check p = xor (codewordBit g raw.check p) (decide (p = syndrome)))
                ∧ (39 ≤ syndrome → decodeGroup raw = .damaged))

/-- A group as sent is CLEAN; with any one of its 39 coded bits in error it is CORRECTED to what was sent; with any two
in error, or with the eighth bit of the check character in error, or with a framing error, it is DAMAGED (R153,
R175). -/
def Obligations.SingleErrorsCorrectedDoubleDetected : Prop :=
  ∀ (g : Group) (k j : Nat), k < 39 → j < 39 → k ≠ j →
    decodeGroup (sentGroup g) = .clean g
      ∧ decodeGroup (RawGroup.hit k (sentGroup g)) = .corrected g
      ∧ decodeGroup (RawGroup.hit j (RawGroup.hit k (sentGroup g))) = .damaged
      ∧ decodeGroup (RawGroup.hit 39 (sentGroup g)) = .damaged
      ∧ ∀ raw : RawGroup, raw.framingError = true → decodeGroup raw = .damaged

/-- Every frame for this station, put on the line by its sender group by group, is the frame that a receiver which
tests for a marker takes into its Receive Queue: no character of header or body is lost, for every body of up to 12
groups (R153, R155, R156, R174, R175, R176). -/
def Obligations.FrameSentIsFrameReceived : Prop :=
  ∀ (f : Frame) (rest : List Instr) (s : State), StationOk s → s.active = true →
    s.line.receiver = .testing → s.line.lineState = .idle ∨ s.line.lineState = .busy →
    f.source ≠ 0#8 → f.source ≠ 255#8 → f.groupCount.toNat = f.body.length → f.body.length ≤ 12 →
    1 ≤ f.kind.toNat → f.kind.toNat ≤ 13 → f.kind ≠ 3#8 →
    f.destination.toNat = s.config.number ∨ f.destination = 255#8 → s.line.rxQueue.length < 8 →
    s.pending = frameEvents f ++ rest →
    s.after (f.body.length + 3) = { s with
      pending := rest
      line := { s.line with
        lineState := .busy
        receiver := .skipping
        rxQueue := s.line.rxQueue ++ [f]
        silenceTimer := .running (10 * s.config.silenceTime)
        isolated := false
        goodFrames := min 65535 (s.line.goodFrames + 1) } }

/-- The report that a station sends, as its peers read it: every value they keep is the value present in the sender's
blocks at the attempt start, absent ones as absent, whatever the free values (R33, R34, R9, R7, R8, R178). -/
def Obligations.ReportReadBack : Prop :=
  ∀ (sequence : Byte) (start : Bool) (s : State), StationOk s → s.speaking = true →
    let f := reportFrame sequence start s
    f.start = start ∧ f.sequence = sequence ∧ f.source.toNat = s.config.number
      ∧ (s.isTransfer = true → readReport f = some
          { mode := if s.control.mode = .hold then .hold else .running
            isolated := s.line.isolated
            word := s.conditionWord
            part := .transfer
              { qr := s.valve.qr
                cls := s.config.ownClass
                grant := s.share.record.grant
                valve := s.valve.command
                margin := s.valve.margin
                wide := s.valve.wide
                starved := s.valve.starved
                localHand := s.valve.localHand
                shed := s.limit.shedInForce
                outcome := s.share.record.outcome } })
      ∧ (s.isPlant = true → readReport f = some
          { mode := if s.control.mode = .hold then .hold else .running
            isolated := s.line.isolated
            word := s.conditionWord
            part := .plant
              { offer := s.head.offer
                head := s.head.setpoint
                flow := s.reading .q
                critical := s.head.critical
                criticalMargin := s.head.criticalMargin } })

/-! ### Latches and counters -/

/-- A latch once set stays set through every event but an admitted CLEAR_CONDITIONS and a reset (R143). -/
def Obligations.LatchesStayUntilCleared : Prop :=
  ∀ (c : Instr) (l : Latch) (s t : State), exec c s = .next t → s.latched l = true →
    t.latched l = true ∨ t.control.mode = .starting
      ∨ (c = .clearConditions ∧ ∃ f rest, Admitted .clearConditions f rest s)

/-- Every counter is a count from 0 to 65535 that saturates there and does not wrap: no event but a reset brings one
down (R3). -/
def Obligations.CountersSaturate : Prop :=
  ∀ (c : Instr) (k : Nat) (s t : State), StationOk s → exec c s = .next t → k < 12 →
    s.counters.getD k 0 ≤ 65535 ∧ t.counters.getD k 0 ≤ 65535
      ∧ (s.counters.getD k 0 ≤ t.counters.getD k 0 ∨ t.control.mode = .starting)
      ∧ (s.counters.getD k 0 = 65535 → t.counters.getD k 0 = 65535 ∨ t.control.mode = .starting)

/-! ### Events out of place -/

/-- A taking event takes only a frame of its own kind that stands at the front: with an empty queue or a frame of
another kind there, nothing changes (R156; the event without its frame is the model's, log 1). A control period of a
station in STARTING, UNCONFIGURED or of the other role does not run: its event changes nothing there (R84, R86, R106,
R110, log 1). A descriptor read that is not in progress does not complete (R169, log 1). -/
def Obligations.EventsOutOfPlaceDoNothing : Prop :=
  ∀ s : State, StationOk s →
    ((∀ f ∈ s.line.rxQueue.head?, f.kind ≠ 1#8) → exec .takeStationReport s = .next s)
      ∧ ((∀ f ∈ s.line.rxQueue.head?, f.kind ≠ 2#8) → exec .takeAlarmFrame s = .next s)
      ∧ (∀ (kind : Kind) (order : OfferOrder) (c : Instr),
          commandEvent order kind = some c →
          (∀ f ∈ s.line.rxQueue.head?, f.kind ≠ kind.code) → exec c s = .next s)
      ∧ (s.isTransfer = false → ∀ order, exec (.valveLoopControlPeriodExpiry order) s = .next s)
      ∧ (s.isPlant = false → exec .headControlPeriodExpiry s = .next s)
      ∧ (s.readInProgress = false → ∀ bytes, exec (.descriptorReadComplete bytes) s = .next s)
end

