-- ==== Sys2Proof/Laws/State.lean ====
section
/-! SUPPORT. What each update of State leaves and sets, one lemma per field, and what the accessors of Flags.lean
read after an update of a block they do not read. All true by definition. -/

namespace Sys2Proof.Machine

variable (s : State)

/-! ### State.setControl -/

@[simp] theorem State.setControl_pending (b : StationControl) : (s.setControl b).pending = s.pending := rfl
@[simp] theorem State.setControl_control (b : StationControl) : (s.setControl b).control = b := rfl
@[simp] theorem State.setControl_line (b : StationControl) : (s.setControl b).line = s.line := rfl
@[simp] theorem State.setControl_peers (b : StationControl) : (s.setControl b).peers = s.peers := rfl
@[simp] theorem State.setControl_reports (b : StationControl) : (s.setControl b).reports = s.reports := rfl
@[simp] theorem State.setControl_share (b : StationControl) : (s.setControl b).share = s.share := rfl
@[simp] theorem State.setControl_limit (b : StationControl) : (s.setControl b).limit = s.limit := rfl
@[simp] theorem State.setControl_valve (b : StationControl) : (s.setControl b).valve = s.valve := rfl
@[simp] theorem State.setControl_head (b : StationControl) : (s.setControl b).head = s.head := rfl
@[simp] theorem State.setControl_measure (b : StationControl) : (s.setControl b).measure = s.measure := rfl
@[simp] theorem State.setControl_command (b : StationControl) : (s.setControl b).command = s.command := rfl
@[simp] theorem State.setControl_condition (b : StationControl) :
    (s.setControl b).condition = s.condition := rfl
@[simp] theorem State.setControl_driveLane (b : StationControl) :
    (s.setControl b).driveLane = s.driveLane := rfl

/-! ### State.setLine -/

@[simp] theorem State.setLine_pending (b : LineUnit) : (s.setLine b).pending = s.pending := rfl
@[simp] theorem State.setLine_control (b : LineUnit) : (s.setLine b).control = s.control := rfl
@[simp] theorem State.setLine_line (b : LineUnit) : (s.setLine b).line = b := rfl
@[simp] theorem State.setLine_peers (b : LineUnit) : (s.setLine b).peers = s.peers := rfl
@[simp] theorem State.setLine_reports (b : LineUnit) : (s.setLine b).reports = s.reports := rfl
@[simp] theorem State.setLine_share (b : LineUnit) : (s.setLine b).share = s.share := rfl
@[simp] theorem State.setLine_limit (b : LineUnit) : (s.setLine b).limit = s.limit := rfl
@[simp] theorem State.setLine_valve (b : LineUnit) : (s.setLine b).valve = s.valve := rfl
@[simp] theorem State.setLine_head (b : LineUnit) : (s.setLine b).head = s.head := rfl
@[simp] theorem State.setLine_measure (b : LineUnit) : (s.setLine b).measure = s.measure := rfl
@[simp] theorem State.setLine_command (b : LineUnit) : (s.setLine b).command = s.command := rfl
@[simp] theorem State.setLine_condition (b : LineUnit) : (s.setLine b).condition = s.condition := rfl
@[simp] theorem State.setLine_driveLane (b : LineUnit) : (s.setLine b).driveLane = s.driveLane := rfl

/-! ### State.setPeers -/

@[simp] theorem State.setPeers_pending (b : PeerTable) : (s.setPeers b).pending = s.pending := rfl
@[simp] theorem State.setPeers_control (b : PeerTable) : (s.setPeers b).control = s.control := rfl
@[simp] theorem State.setPeers_line (b : PeerTable) : (s.setPeers b).line = s.line := rfl
@[simp] theorem State.setPeers_peers (b : PeerTable) : (s.setPeers b).peers = b := rfl
@[simp] theorem State.setPeers_reports (b : PeerTable) : (s.setPeers b).reports = s.reports := rfl
@[simp] theorem State.setPeers_share (b : PeerTable) : (s.setPeers b).share = s.share := rfl
@[simp] theorem State.setPeers_limit (b : PeerTable) : (s.setPeers b).limit = s.limit := rfl
@[simp] theorem State.setPeers_valve (b : PeerTable) : (s.setPeers b).valve = s.valve := rfl
@[simp] theorem State.setPeers_head (b : PeerTable) : (s.setPeers b).head = s.head := rfl
@[simp] theorem State.setPeers_measure (b : PeerTable) : (s.setPeers b).measure = s.measure := rfl
@[simp] theorem State.setPeers_command (b : PeerTable) : (s.setPeers b).command = s.command := rfl
@[simp] theorem State.setPeers_condition (b : PeerTable) : (s.setPeers b).condition = s.condition := rfl
@[simp] theorem State.setPeers_driveLane (b : PeerTable) : (s.setPeers b).driveLane = s.driveLane := rfl

/-! ### State.setReports -/

@[simp] theorem State.setReports_pending (b : ReportScheduler) : (s.setReports b).pending = s.pending := rfl
@[simp] theorem State.setReports_control (b : ReportScheduler) : (s.setReports b).control = s.control := rfl
@[simp] theorem State.setReports_line (b : ReportScheduler) : (s.setReports b).line = s.line := rfl
@[simp] theorem State.setReports_peers (b : ReportScheduler) : (s.setReports b).peers = s.peers := rfl
@[simp] theorem State.setReports_reports (b : ReportScheduler) : (s.setReports b).reports = b := rfl
@[simp] theorem State.setReports_share (b : ReportScheduler) : (s.setReports b).share = s.share := rfl
@[simp] theorem State.setReports_limit (b : ReportScheduler) : (s.setReports b).limit = s.limit := rfl
@[simp] theorem State.setReports_valve (b : ReportScheduler) : (s.setReports b).valve = s.valve := rfl
@[simp] theorem State.setReports_head (b : ReportScheduler) : (s.setReports b).head = s.head := rfl
@[simp] theorem State.setReports_measure (b : ReportScheduler) : (s.setReports b).measure = s.measure := rfl
@[simp] theorem State.setReports_command (b : ReportScheduler) : (s.setReports b).command = s.command := rfl
@[simp] theorem State.setReports_condition (b : ReportScheduler) :
    (s.setReports b).condition = s.condition := rfl
@[simp] theorem State.setReports_driveLane (b : ReportScheduler) :
    (s.setReports b).driveLane = s.driveLane := rfl

/-! ### State.setShare -/

@[simp] theorem State.setShare_pending (b : ShareEngine) : (s.setShare b).pending = s.pending := rfl
@[simp] theorem State.setShare_control (b : ShareEngine) : (s.setShare b).control = s.control := rfl
@[simp] theorem State.setShare_line (b : ShareEngine) : (s.setShare b).line = s.line := rfl
@[simp] theorem State.setShare_peers (b : ShareEngine) : (s.setShare b).peers = s.peers := rfl
@[simp] theorem State.setShare_reports (b : ShareEngine) : (s.setShare b).reports = s.reports := rfl
@[simp] theorem State.setShare_share (b : ShareEngine) : (s.setShare b).share = b := rfl
@[simp] theorem State.setShare_limit (b : ShareEngine) : (s.setShare b).limit = s.limit := rfl
@[simp] theorem State.setShare_valve (b : ShareEngine) : (s.setShare b).valve = s.valve := rfl
@[simp] theorem State.setShare_head (b : ShareEngine) : (s.setShare b).head = s.head := rfl
@[simp] theorem State.setShare_measure (b : ShareEngine) : (s.setShare b).measure = s.measure := rfl
@[simp] theorem State.setShare_command (b : ShareEngine) : (s.setShare b).command = s.command := rfl
@[simp] theorem State.setShare_condition (b : ShareEngine) : (s.setShare b).condition = s.condition := rfl
@[simp] theorem State.setShare_driveLane (b : ShareEngine) : (s.setShare b).driveLane = s.driveLane := rfl

/-! ### State.setLimit -/

@[simp] theorem State.setLimit_pending (b : LimitUnit) : (s.setLimit b).pending = s.pending := rfl
@[simp] theorem State.setLimit_control (b : LimitUnit) : (s.setLimit b).control = s.control := rfl
@[simp] theorem State.setLimit_line (b : LimitUnit) : (s.setLimit b).line = s.line := rfl
@[simp] theorem State.setLimit_peers (b : LimitUnit) : (s.setLimit b).peers = s.peers := rfl
@[simp] theorem State.setLimit_reports (b : LimitUnit) : (s.setLimit b).reports = s.reports := rfl
@[simp] theorem State.setLimit_share (b : LimitUnit) : (s.setLimit b).share = s.share := rfl
@[simp] theorem State.setLimit_limit (b : LimitUnit) : (s.setLimit b).limit = b := rfl
@[simp] theorem State.setLimit_valve (b : LimitUnit) : (s.setLimit b).valve = s.valve := rfl
@[simp] theorem State.setLimit_head (b : LimitUnit) : (s.setLimit b).head = s.head := rfl
@[simp] theorem State.setLimit_measure (b : LimitUnit) : (s.setLimit b).measure = s.measure := rfl
@[simp] theorem State.setLimit_command (b : LimitUnit) : (s.setLimit b).command = s.command := rfl
@[simp] theorem State.setLimit_condition (b : LimitUnit) : (s.setLimit b).condition = s.condition := rfl
@[simp] theorem State.setLimit_driveLane (b : LimitUnit) : (s.setLimit b).driveLane = s.driveLane := rfl

/-! ### State.setValve -/

@[simp] theorem State.setValve_pending (b : ValveLoop) : (s.setValve b).pending = s.pending := rfl
@[simp] theorem State.setValve_control (b : ValveLoop) : (s.setValve b).control = s.control := rfl
@[simp] theorem State.setValve_line (b : ValveLoop) : (s.setValve b).line = s.line := rfl
@[simp] theorem State.setValve_peers (b : ValveLoop) : (s.setValve b).peers = s.peers := rfl
@[simp] theorem State.setValve_reports (b : ValveLoop) : (s.setValve b).reports = s.reports := rfl
@[simp] theorem State.setValve_share (b : ValveLoop) : (s.setValve b).share = s.share := rfl
@[simp] theorem State.setValve_limit (b : ValveLoop) : (s.setValve b).limit = s.limit := rfl
@[simp] theorem State.setValve_valve (b : ValveLoop) : (s.setValve b).valve = b := rfl
@[simp] theorem State.setValve_head (b : ValveLoop) : (s.setValve b).head = s.head := rfl
@[simp] theorem State.setValve_measure (b : ValveLoop) : (s.setValve b).measure = s.measure := rfl
@[simp] theorem State.setValve_command (b : ValveLoop) : (s.setValve b).command = s.command := rfl
@[simp] theorem State.setValve_condition (b : ValveLoop) : (s.setValve b).condition = s.condition := rfl
@[simp] theorem State.setValve_driveLane (b : ValveLoop) : (s.setValve b).driveLane = s.driveLane := rfl

/-! ### State.setHead -/

@[simp] theorem State.setHead_pending (b : HeadResetUnit) : (s.setHead b).pending = s.pending := rfl
@[simp] theorem State.setHead_control (b : HeadResetUnit) : (s.setHead b).control = s.control := rfl
@[simp] theorem State.setHead_line (b : HeadResetUnit) : (s.setHead b).line = s.line := rfl
@[simp] theorem State.setHead_peers (b : HeadResetUnit) : (s.setHead b).peers = s.peers := rfl
@[simp] theorem State.setHead_reports (b : HeadResetUnit) : (s.setHead b).reports = s.reports := rfl
@[simp] theorem State.setHead_share (b : HeadResetUnit) : (s.setHead b).share = s.share := rfl
@[simp] theorem State.setHead_limit (b : HeadResetUnit) : (s.setHead b).limit = s.limit := rfl
@[simp] theorem State.setHead_valve (b : HeadResetUnit) : (s.setHead b).valve = s.valve := rfl
@[simp] theorem State.setHead_head (b : HeadResetUnit) : (s.setHead b).head = b := rfl
@[simp] theorem State.setHead_measure (b : HeadResetUnit) : (s.setHead b).measure = s.measure := rfl
@[simp] theorem State.setHead_command (b : HeadResetUnit) : (s.setHead b).command = s.command := rfl
@[simp] theorem State.setHead_condition (b : HeadResetUnit) : (s.setHead b).condition = s.condition := rfl
@[simp] theorem State.setHead_driveLane (b : HeadResetUnit) : (s.setHead b).driveLane = s.driveLane := rfl

/-! ### State.setMeasure -/

@[simp] theorem State.setMeasure_pending (b : MeasurementUnit) : (s.setMeasure b).pending = s.pending := rfl
@[simp] theorem State.setMeasure_control (b : MeasurementUnit) : (s.setMeasure b).control = s.control := rfl
@[simp] theorem State.setMeasure_line (b : MeasurementUnit) : (s.setMeasure b).line = s.line := rfl
@[simp] theorem State.setMeasure_peers (b : MeasurementUnit) : (s.setMeasure b).peers = s.peers := rfl
@[simp] theorem State.setMeasure_reports (b : MeasurementUnit) : (s.setMeasure b).reports = s.reports := rfl
@[simp] theorem State.setMeasure_share (b : MeasurementUnit) : (s.setMeasure b).share = s.share := rfl
@[simp] theorem State.setMeasure_limit (b : MeasurementUnit) : (s.setMeasure b).limit = s.limit := rfl
@[simp] theorem State.setMeasure_valve (b : MeasurementUnit) : (s.setMeasure b).valve = s.valve := rfl
@[simp] theorem State.setMeasure_head (b : MeasurementUnit) : (s.setMeasure b).head = s.head := rfl
@[simp] theorem State.setMeasure_measure (b : MeasurementUnit) : (s.setMeasure b).measure = b := rfl
@[simp] theorem State.setMeasure_command (b : MeasurementUnit) : (s.setMeasure b).command = s.command := rfl
@[simp] theorem State.setMeasure_condition (b : MeasurementUnit) :
    (s.setMeasure b).condition = s.condition := rfl
@[simp] theorem State.setMeasure_driveLane (b : MeasurementUnit) :
    (s.setMeasure b).driveLane = s.driveLane := rfl

/-! ### State.setCommand -/

@[simp] theorem State.setCommand_pending (b : CommandHandler) : (s.setCommand b).pending = s.pending := rfl
@[simp] theorem State.setCommand_control (b : CommandHandler) : (s.setCommand b).control = s.control := rfl
@[simp] theorem State.setCommand_line (b : CommandHandler) : (s.setCommand b).line = s.line := rfl
@[simp] theorem State.setCommand_peers (b : CommandHandler) : (s.setCommand b).peers = s.peers := rfl
@[simp] theorem State.setCommand_reports (b : CommandHandler) : (s.setCommand b).reports = s.reports := rfl
@[simp] theorem State.setCommand_share (b : CommandHandler) : (s.setCommand b).share = s.share := rfl
@[simp] theorem State.setCommand_limit (b : CommandHandler) : (s.setCommand b).limit = s.limit := rfl
@[simp] theorem State.setCommand_valve (b : CommandHandler) : (s.setCommand b).valve = s.valve := rfl
@[simp] theorem State.setCommand_head (b : CommandHandler) : (s.setCommand b).head = s.head := rfl
@[simp] theorem State.setCommand_measure (b : CommandHandler) : (s.setCommand b).measure = s.measure := rfl
@[simp] theorem State.setCommand_command (b : CommandHandler) : (s.setCommand b).command = b := rfl
@[simp] theorem State.setCommand_condition (b : CommandHandler) :
    (s.setCommand b).condition = s.condition := rfl
@[simp] theorem State.setCommand_driveLane (b : CommandHandler) :
    (s.setCommand b).driveLane = s.driveLane := rfl

/-! ### State.setCondition -/

@[simp] theorem State.setCondition_pending (b : ConditionUnit) :
    (s.setCondition b).pending = s.pending := rfl
@[simp] theorem State.setCondition_control (b : ConditionUnit) :
    (s.setCondition b).control = s.control := rfl
@[simp] theorem State.setCondition_line (b : ConditionUnit) : (s.setCondition b).line = s.line := rfl
@[simp] theorem State.setCondition_peers (b : ConditionUnit) : (s.setCondition b).peers = s.peers := rfl
@[simp] theorem State.setCondition_reports (b : ConditionUnit) :
    (s.setCondition b).reports = s.reports := rfl
@[simp] theorem State.setCondition_share (b : ConditionUnit) : (s.setCondition b).share = s.share := rfl
@[simp] theorem State.setCondition_limit (b : ConditionUnit) : (s.setCondition b).limit = s.limit := rfl
@[simp] theorem State.setCondition_valve (b : ConditionUnit) : (s.setCondition b).valve = s.valve := rfl
@[simp] theorem State.setCondition_head (b : ConditionUnit) : (s.setCondition b).head = s.head := rfl
@[simp] theorem State.setCondition_measure (b : ConditionUnit) :
    (s.setCondition b).measure = s.measure := rfl
@[simp] theorem State.setCondition_command (b : ConditionUnit) :
    (s.setCondition b).command = s.command := rfl
@[simp] theorem State.setCondition_condition (b : ConditionUnit) : (s.setCondition b).condition = b := rfl
@[simp] theorem State.setCondition_driveLane (b : ConditionUnit) :
    (s.setCondition b).driveLane = s.driveLane := rfl

/-! ### State.sendDrive -/

@[simp] theorem State.sendDrive_pending (r : List Byte) : (s.sendDrive r).pending = s.pending := rfl
@[simp] theorem State.sendDrive_control (r : List Byte) : (s.sendDrive r).control = s.control := rfl
@[simp] theorem State.sendDrive_line (r : List Byte) : (s.sendDrive r).line = s.line := rfl
@[simp] theorem State.sendDrive_peers (r : List Byte) : (s.sendDrive r).peers = s.peers := rfl
@[simp] theorem State.sendDrive_reports (r : List Byte) : (s.sendDrive r).reports = s.reports := rfl
@[simp] theorem State.sendDrive_share (r : List Byte) : (s.sendDrive r).share = s.share := rfl
@[simp] theorem State.sendDrive_limit (r : List Byte) : (s.sendDrive r).limit = s.limit := rfl
@[simp] theorem State.sendDrive_valve (r : List Byte) : (s.sendDrive r).valve = s.valve := rfl
@[simp] theorem State.sendDrive_head (r : List Byte) : (s.sendDrive r).head = s.head := rfl
@[simp] theorem State.sendDrive_measure (r : List Byte) : (s.sendDrive r).measure = s.measure := rfl
@[simp] theorem State.sendDrive_command (r : List Byte) : (s.sendDrive r).command = s.command := rfl
@[simp] theorem State.sendDrive_condition (r : List Byte) : (s.sendDrive r).condition = s.condition := rfl
@[simp] theorem State.sendDrive_driveLane (r : List Byte) :
    (s.sendDrive r).driveLane = r :: s.driveLane := rfl

/-! ### Timers -/

@[simp] theorem Timer.isRunning_running (n : Nat) : (Timer.running n).isRunning = true := rfl
@[simp] theorem Timer.isRunning_stopped : Timer.stopped.isRunning = false := rfl
@[simp] theorem startSeconds_eq (n : Nat) : startSeconds n = .running (10 * n) := rfl
@[simp] theorem startTenths_eq (n : Nat) : startTenths n = .running n := rfl

/-! ### Kinds of entries -/

@[simp] theorem TxEntry.isReport_report (f : Option (Byte × Bool)) : (TxEntry.report f).isReport = true := rfl
@[simp] theorem TxEntry.isReport_alarm (q : Option Byte) : (TxEntry.alarm q).isReport = false := rfl
@[simp] theorem TxEntry.isReport_reply (r : Reply) : (TxEntry.reply r).isReport = false := rfl
@[simp] theorem TxEntry.isAlarm_report (f : Option (Byte × Bool)) : (TxEntry.report f).isAlarm = false := rfl
@[simp] theorem TxEntry.isAlarm_alarm (q : Option Byte) : (TxEntry.alarm q).isAlarm = true := rfl
@[simp] theorem TxEntry.isAlarm_reply (r : Reply) : (TxEntry.reply r).isAlarm = false := rfl
@[simp] theorem TxEntry.isReply_report (f : Option (Byte × Bool)) : (TxEntry.report f).isReply = false := rfl
@[simp] theorem TxEntry.isReply_alarm (q : Option Byte) : (TxEntry.alarm q).isReply = false := rfl
@[simp] theorem TxEntry.isReply_reply (r : Reply) : (TxEntry.reply r).isReply = true := rfl
@[simp] theorem TxEntry.marked_report (f : Option (Byte × Bool)) : (TxEntry.report f).marked = false := rfl
@[simp] theorem TxEntry.marked_alarm (q : Option Byte) : (TxEntry.alarm q).marked = false := rfl
@[simp] theorem TxEntry.marked_reply (r : Reply) : (TxEntry.reply r).marked = r.restart := rfl

/-! ### Accessors -/

@[simp] theorem State.setLine_active (b : LineUnit) : (s.setLine b).active = s.active := rfl
@[simp] theorem State.setPeers_active (b : PeerTable) : (s.setPeers b).active = s.active := rfl
@[simp] theorem State.setReports_active (b : ReportScheduler) : (s.setReports b).active = s.active := rfl
@[simp] theorem State.setShare_active (b : ShareEngine) : (s.setShare b).active = s.active := rfl
@[simp] theorem State.setLimit_active (b : LimitUnit) : (s.setLimit b).active = s.active := rfl
@[simp] theorem State.setValve_active (b : ValveLoop) : (s.setValve b).active = s.active := rfl
@[simp] theorem State.setHead_active (b : HeadResetUnit) : (s.setHead b).active = s.active := rfl
@[simp] theorem State.setMeasure_active (b : MeasurementUnit) : (s.setMeasure b).active = s.active := rfl
@[simp] theorem State.setCommand_active (b : CommandHandler) : (s.setCommand b).active = s.active := rfl
@[simp] theorem State.setCondition_active (b : ConditionUnit) : (s.setCondition b).active = s.active := rfl
@[simp] theorem State.sendDrive_active (r : List Byte) : (s.sendDrive r).active = s.active := rfl
@[simp] theorem State.setLine_speaking (b : LineUnit) : (s.setLine b).speaking = s.speaking := rfl
@[simp] theorem State.setPeers_speaking (b : PeerTable) : (s.setPeers b).speaking = s.speaking := rfl
@[simp] theorem State.setReports_speaking (b : ReportScheduler) :
    (s.setReports b).speaking = s.speaking := rfl
@[simp] theorem State.setShare_speaking (b : ShareEngine) : (s.setShare b).speaking = s.speaking := rfl
@[simp] theorem State.setLimit_speaking (b : LimitUnit) : (s.setLimit b).speaking = s.speaking := rfl
@[simp] theorem State.setValve_speaking (b : ValveLoop) : (s.setValve b).speaking = s.speaking := rfl
@[simp] theorem State.setHead_speaking (b : HeadResetUnit) : (s.setHead b).speaking = s.speaking := rfl
@[simp] theorem State.setMeasure_speaking (b : MeasurementUnit) :
    (s.setMeasure b).speaking = s.speaking := rfl
@[simp] theorem State.setCommand_speaking (b : CommandHandler) :
    (s.setCommand b).speaking = s.speaking := rfl
@[simp] theorem State.setCondition_speaking (b : ConditionUnit) :
    (s.setCondition b).speaking = s.speaking := rfl
@[simp] theorem State.sendDrive_speaking (r : List Byte) : (s.sendDrive r).speaking = s.speaking := rfl
@[simp] theorem State.setLine_config (b : LineUnit) : (s.setLine b).config = s.config := rfl
@[simp] theorem State.setPeers_config (b : PeerTable) : (s.setPeers b).config = s.config := rfl
@[simp] theorem State.setReports_config (b : ReportScheduler) : (s.setReports b).config = s.config := rfl
@[simp] theorem State.setShare_config (b : ShareEngine) : (s.setShare b).config = s.config := rfl
@[simp] theorem State.setLimit_config (b : LimitUnit) : (s.setLimit b).config = s.config := rfl
@[simp] theorem State.setValve_config (b : ValveLoop) : (s.setValve b).config = s.config := rfl
@[simp] theorem State.setHead_config (b : HeadResetUnit) : (s.setHead b).config = s.config := rfl
@[simp] theorem State.setMeasure_config (b : MeasurementUnit) : (s.setMeasure b).config = s.config := rfl
@[simp] theorem State.setCommand_config (b : CommandHandler) : (s.setCommand b).config = s.config := rfl
@[simp] theorem State.setCondition_config (b : ConditionUnit) : (s.setCondition b).config = s.config := rfl
@[simp] theorem State.sendDrive_config (r : List Byte) : (s.sendDrive r).config = s.config := rfl
@[simp] theorem State.setLine_band (b : LineUnit) : (s.setLine b).band = s.band := rfl
@[simp] theorem State.setPeers_band (b : PeerTable) : (s.setPeers b).band = s.band := rfl
@[simp] theorem State.setReports_band (b : ReportScheduler) : (s.setReports b).band = s.band := rfl
@[simp] theorem State.setShare_band (b : ShareEngine) : (s.setShare b).band = s.band := rfl
@[simp] theorem State.setLimit_band (b : LimitUnit) : (s.setLimit b).band = s.band := rfl
@[simp] theorem State.setValve_band (b : ValveLoop) : (s.setValve b).band = s.band := rfl
@[simp] theorem State.setHead_band (b : HeadResetUnit) : (s.setHead b).band = s.band := rfl
@[simp] theorem State.setMeasure_band (b : MeasurementUnit) : (s.setMeasure b).band = s.band := rfl
@[simp] theorem State.setCommand_band (b : CommandHandler) : (s.setCommand b).band = s.band := rfl
@[simp] theorem State.setCondition_band (b : ConditionUnit) : (s.setCondition b).band = s.band := rfl
@[simp] theorem State.sendDrive_band (r : List Byte) : (s.sendDrive r).band = s.band := rfl
@[simp] theorem State.setLine_isTransfer (b : LineUnit) : (s.setLine b).isTransfer = s.isTransfer := rfl
@[simp] theorem State.setPeers_isTransfer (b : PeerTable) : (s.setPeers b).isTransfer = s.isTransfer := rfl
@[simp] theorem State.setReports_isTransfer (b : ReportScheduler) :
    (s.setReports b).isTransfer = s.isTransfer := rfl
@[simp] theorem State.setShare_isTransfer (b : ShareEngine) :
    (s.setShare b).isTransfer = s.isTransfer := rfl
@[simp] theorem State.setLimit_isTransfer (b : LimitUnit) : (s.setLimit b).isTransfer = s.isTransfer := rfl
@[simp] theorem State.setValve_isTransfer (b : ValveLoop) : (s.setValve b).isTransfer = s.isTransfer := rfl
@[simp] theorem State.setHead_isTransfer (b : HeadResetUnit) :
    (s.setHead b).isTransfer = s.isTransfer := rfl
@[simp] theorem State.setMeasure_isTransfer (b : MeasurementUnit) :
    (s.setMeasure b).isTransfer = s.isTransfer := rfl
@[simp] theorem State.setCommand_isTransfer (b : CommandHandler) :
    (s.setCommand b).isTransfer = s.isTransfer := rfl
@[simp] theorem State.setCondition_isTransfer (b : ConditionUnit) :
    (s.setCondition b).isTransfer = s.isTransfer := rfl
@[simp] theorem State.sendDrive_isTransfer (r : List Byte) :
    (s.sendDrive r).isTransfer = s.isTransfer := rfl
@[simp] theorem State.setLine_isPlant (b : LineUnit) : (s.setLine b).isPlant = s.isPlant := rfl
@[simp] theorem State.setPeers_isPlant (b : PeerTable) : (s.setPeers b).isPlant = s.isPlant := rfl
@[simp] theorem State.setReports_isPlant (b : ReportScheduler) : (s.setReports b).isPlant = s.isPlant := rfl
@[simp] theorem State.setShare_isPlant (b : ShareEngine) : (s.setShare b).isPlant = s.isPlant := rfl
@[simp] theorem State.setLimit_isPlant (b : LimitUnit) : (s.setLimit b).isPlant = s.isPlant := rfl
@[simp] theorem State.setValve_isPlant (b : ValveLoop) : (s.setValve b).isPlant = s.isPlant := rfl
@[simp] theorem State.setHead_isPlant (b : HeadResetUnit) : (s.setHead b).isPlant = s.isPlant := rfl
@[simp] theorem State.setMeasure_isPlant (b : MeasurementUnit) : (s.setMeasure b).isPlant = s.isPlant := rfl
@[simp] theorem State.setCommand_isPlant (b : CommandHandler) : (s.setCommand b).isPlant = s.isPlant := rfl
@[simp] theorem State.setCondition_isPlant (b : ConditionUnit) :
    (s.setCondition b).isPlant = s.isPlant := rfl
@[simp] theorem State.sendDrive_isPlant (r : List Byte) : (s.sendDrive r).isPlant = s.isPlant := rfl
@[simp] theorem State.setLine_senderMode (b : LineUnit) : (s.setLine b).senderMode = s.senderMode := rfl
@[simp] theorem State.setPeers_senderMode (b : PeerTable) : (s.setPeers b).senderMode = s.senderMode := rfl
@[simp] theorem State.setReports_senderMode (b : ReportScheduler) :
    (s.setReports b).senderMode = s.senderMode := rfl
@[simp] theorem State.setShare_senderMode (b : ShareEngine) :
    (s.setShare b).senderMode = s.senderMode := rfl
@[simp] theorem State.setLimit_senderMode (b : LimitUnit) : (s.setLimit b).senderMode = s.senderMode := rfl
@[simp] theorem State.setValve_senderMode (b : ValveLoop) : (s.setValve b).senderMode = s.senderMode := rfl
@[simp] theorem State.setHead_senderMode (b : HeadResetUnit) :
    (s.setHead b).senderMode = s.senderMode := rfl
@[simp] theorem State.setMeasure_senderMode (b : MeasurementUnit) :
    (s.setMeasure b).senderMode = s.senderMode := rfl
@[simp] theorem State.setCommand_senderMode (b : CommandHandler) :
    (s.setCommand b).senderMode = s.senderMode := rfl
@[simp] theorem State.setCondition_senderMode (b : ConditionUnit) :
    (s.setCondition b).senderMode = s.senderMode := rfl
@[simp] theorem State.sendDrive_senderMode (r : List Byte) :
    (s.sendDrive r).senderMode = s.senderMode := rfl
@[simp] theorem State.setLine_liveHold (b : LineUnit) : (s.setLine b).liveHold = s.liveHold := rfl
@[simp] theorem State.setPeers_liveHold (b : PeerTable) : (s.setPeers b).liveHold = s.liveHold := rfl
@[simp] theorem State.setReports_liveHold (b : ReportScheduler) :
    (s.setReports b).liveHold = s.liveHold := rfl
@[simp] theorem State.setShare_liveHold (b : ShareEngine) : (s.setShare b).liveHold = s.liveHold := rfl
@[simp] theorem State.setLimit_liveHold (b : LimitUnit) : (s.setLimit b).liveHold = s.liveHold := rfl
@[simp] theorem State.setValve_liveHold (b : ValveLoop) : (s.setValve b).liveHold = s.liveHold := rfl
@[simp] theorem State.setHead_liveHold (b : HeadResetUnit) : (s.setHead b).liveHold = s.liveHold := rfl
@[simp] theorem State.setMeasure_liveHold (b : MeasurementUnit) :
    (s.setMeasure b).liveHold = s.liveHold := rfl
@[simp] theorem State.setCommand_liveHold (b : CommandHandler) :
    (s.setCommand b).liveHold = s.liveHold := rfl
@[simp] theorem State.setCondition_liveHold (b : ConditionUnit) :
    (s.setCondition b).liveHold = s.liveHold := rfl
@[simp] theorem State.sendDrive_liveHold (r : List Byte) : (s.sendDrive r).liveHold = s.liveHold := rfl
@[simp] theorem State.setControl_trip (b : StationControl) : (s.setControl b).trip = s.trip := rfl
@[simp] theorem State.setLine_trip (b : LineUnit) : (s.setLine b).trip = s.trip := rfl
@[simp] theorem State.setPeers_trip (b : PeerTable) : (s.setPeers b).trip = s.trip := rfl
@[simp] theorem State.setReports_trip (b : ReportScheduler) : (s.setReports b).trip = s.trip := rfl
@[simp] theorem State.setShare_trip (b : ShareEngine) : (s.setShare b).trip = s.trip := rfl
@[simp] theorem State.setLimit_trip (b : LimitUnit) : (s.setLimit b).trip = s.trip := rfl
@[simp] theorem State.setValve_trip (b : ValveLoop) : (s.setValve b).trip = s.trip := rfl
@[simp] theorem State.setHead_trip (b : HeadResetUnit) : (s.setHead b).trip = s.trip := rfl
@[simp] theorem State.setCommand_trip (b : CommandHandler) : (s.setCommand b).trip = s.trip := rfl
@[simp] theorem State.setCondition_trip (b : ConditionUnit) : (s.setCondition b).trip = s.trip := rfl
@[simp] theorem State.sendDrive_trip (r : List Byte) : (s.sendDrive r).trip = s.trip := rfl
@[simp] theorem State.setLine_shedCap (b : LineUnit) : (s.setLine b).shedCap = s.shedCap := rfl
@[simp] theorem State.setPeers_shedCap (b : PeerTable) : (s.setPeers b).shedCap = s.shedCap := rfl
@[simp] theorem State.setReports_shedCap (b : ReportScheduler) : (s.setReports b).shedCap = s.shedCap := rfl
@[simp] theorem State.setShare_shedCap (b : ShareEngine) : (s.setShare b).shedCap = s.shedCap := rfl
@[simp] theorem State.setValve_shedCap (b : ValveLoop) : (s.setValve b).shedCap = s.shedCap := rfl
@[simp] theorem State.setHead_shedCap (b : HeadResetUnit) : (s.setHead b).shedCap = s.shedCap := rfl
@[simp] theorem State.setMeasure_shedCap (b : MeasurementUnit) : (s.setMeasure b).shedCap = s.shedCap := rfl
@[simp] theorem State.setCommand_shedCap (b : CommandHandler) : (s.setCommand b).shedCap = s.shedCap := rfl
@[simp] theorem State.setCondition_shedCap (b : ConditionUnit) :
    (s.setCondition b).shedCap = s.shedCap := rfl
@[simp] theorem State.sendDrive_shedCap (r : List Byte) : (s.sendDrive r).shedCap = s.shedCap := rfl
@[simp] theorem State.setControl_latched (b : StationControl) (l : Latch) :
    (s.setControl b).latched l = s.latched l := rfl
@[simp] theorem State.setLine_latched (b : LineUnit) (l : Latch) :
    (s.setLine b).latched l = s.latched l := rfl
@[simp] theorem State.setPeers_latched (b : PeerTable) (l : Latch) :
    (s.setPeers b).latched l = s.latched l := rfl
@[simp] theorem State.setReports_latched (b : ReportScheduler) (l : Latch) :
    (s.setReports b).latched l = s.latched l := rfl
@[simp] theorem State.setShare_latched (b : ShareEngine) (l : Latch) :
    (s.setShare b).latched l = s.latched l := rfl
@[simp] theorem State.setLimit_latched (b : LimitUnit) (l : Latch) :
    (s.setLimit b).latched l = s.latched l := rfl
@[simp] theorem State.setValve_latched (b : ValveLoop) (l : Latch) :
    (s.setValve b).latched l = s.latched l := rfl
@[simp] theorem State.setHead_latched (b : HeadResetUnit) (l : Latch) :
    (s.setHead b).latched l = s.latched l := rfl
@[simp] theorem State.setMeasure_latched (b : MeasurementUnit) (l : Latch) :
    (s.setMeasure b).latched l = s.latched l := rfl
@[simp] theorem State.setCommand_latched (b : CommandHandler) (l : Latch) :
    (s.setCommand b).latched l = s.latched l := rfl
@[simp] theorem State.setLine_urgent (b : LineUnit) (l : Latch) : (s.setLine b).urgent l = s.urgent l := rfl
@[simp] theorem State.setPeers_urgent (b : PeerTable) (l : Latch) :
    (s.setPeers b).urgent l = s.urgent l := rfl
@[simp] theorem State.setReports_urgent (b : ReportScheduler) (l : Latch) :
    (s.setReports b).urgent l = s.urgent l := rfl
@[simp] theorem State.setShare_urgent (b : ShareEngine) (l : Latch) :
    (s.setShare b).urgent l = s.urgent l := rfl
@[simp] theorem State.setLimit_urgent (b : LimitUnit) (l : Latch) :
    (s.setLimit b).urgent l = s.urgent l := rfl
@[simp] theorem State.setValve_urgent (b : ValveLoop) (l : Latch) :
    (s.setValve b).urgent l = s.urgent l := rfl
@[simp] theorem State.setHead_urgent (b : HeadResetUnit) (l : Latch) :
    (s.setHead b).urgent l = s.urgent l := rfl
@[simp] theorem State.setMeasure_urgent (b : MeasurementUnit) (l : Latch) :
    (s.setMeasure b).urgent l = s.urgent l := rfl
@[simp] theorem State.setCommand_urgent (b : CommandHandler) (l : Latch) :
    (s.setCommand b).urgent l = s.urgent l := rfl
@[simp] theorem State.setCondition_urgent (b : ConditionUnit) (l : Latch) :
    (s.setCondition b).urgent l = s.urgent l := rfl
@[simp] theorem State.setControl_reading (b : StationControl) (n : FieldName) :
    (s.setControl b).reading n = s.reading n := rfl
@[simp] theorem State.setLine_reading (b : LineUnit) (n : FieldName) :
    (s.setLine b).reading n = s.reading n := rfl
@[simp] theorem State.setPeers_reading (b : PeerTable) (n : FieldName) :
    (s.setPeers b).reading n = s.reading n := rfl
@[simp] theorem State.setReports_reading (b : ReportScheduler) (n : FieldName) :
    (s.setReports b).reading n = s.reading n := rfl
@[simp] theorem State.setShare_reading (b : ShareEngine) (n : FieldName) :
    (s.setShare b).reading n = s.reading n := rfl
@[simp] theorem State.setLimit_reading (b : LimitUnit) (n : FieldName) :
    (s.setLimit b).reading n = s.reading n := rfl
@[simp] theorem State.setValve_reading (b : ValveLoop) (n : FieldName) :
    (s.setValve b).reading n = s.reading n := rfl
@[simp] theorem State.setHead_reading (b : HeadResetUnit) (n : FieldName) :
    (s.setHead b).reading n = s.reading n := rfl
@[simp] theorem State.setCommand_reading (b : CommandHandler) (n : FieldName) :
    (s.setCommand b).reading n = s.reading n := rfl
@[simp] theorem State.setCondition_reading (b : ConditionUnit) (n : FieldName) :
    (s.setCondition b).reading n = s.reading n := rfl

end Sys2Proof.Machine
end

