-- ==== Sys2Proof/Laws/Frames.lean ====
section
/-! SUPPORT. What each shared operation of Ops.lean leaves alone: one lemma per operation, a conjunction of
equations that simp rewrites with. -/

namespace Sys2Proof.Machine

/-- An entry that joins the queue changes the waiting entries only (R157). -/
@[simp] theorem enqueue_frame (e : TxEntry) (s : State) :
    (enqueue e s).pending = s.pending ∧ (enqueue e s).control = s.control
      ∧ (enqueue e s).line.lineState = s.line.lineState ∧ (enqueue e s).line.receiver = s.line.receiver
      ∧ (enqueue e s).line.rxQueue = s.line.rxQueue ∧ (enqueue e s).line.inFlight = s.line.inFlight
      ∧ (enqueue e s).line.attempts = s.line.attempts ∧ (enqueue e s).line.window = s.line.window
      ∧ (enqueue e s).line.holdoff = s.line.holdoff ∧ (enqueue e s).line.draws = s.line.draws
      ∧ (enqueue e s).line.sending = s.line.sending
      ∧ (enqueue e s).line.silenceTimer = s.line.silenceTimer
      ∧ (enqueue e s).line.isolated = s.line.isolated
      ∧ (enqueue e s).line.goodFrames = s.line.goodFrames
      ∧ (enqueue e s).line.correctedGroups = s.line.correctedGroups
      ∧ (enqueue e s).line.damagedFrames = s.line.damagedFrames
      ∧ (enqueue e s).line.rxOverruns = s.line.rxOverruns
      ∧ (enqueue e s).line.collisions = s.line.collisions
      ∧ (enqueue e s).line.abandoned = s.line.abandoned
      ∧ (enqueue e s).line.repliesLost = s.line.repliesLost ∧ (enqueue e s).peers = s.peers
      ∧ (enqueue e s).reports = s.reports ∧ (enqueue e s).share = s.share
      ∧ (enqueue e s).limit = s.limit ∧ (enqueue e s).valve = s.valve ∧ (enqueue e s).head = s.head
      ∧ (enqueue e s).measure = s.measure ∧ (enqueue e s).command = s.command
      ∧ (enqueue e s).condition = s.condition ∧ (enqueue e s).driveLane = s.driveLane := by
  unfold enqueue
  simp

/-- Marking a latch changes the latches only (R143). -/
@[simp] theorem markLatch_frame (l : Latch) (s : State) :
    (markLatch l s).pending = s.pending ∧ (markLatch l s).control = s.control
      ∧ (markLatch l s).line = s.line ∧ (markLatch l s).peers = s.peers
      ∧ (markLatch l s).reports = s.reports ∧ (markLatch l s).share = s.share
      ∧ (markLatch l s).limit = s.limit ∧ (markLatch l s).valve = s.valve
      ∧ (markLatch l s).head = s.head ∧ (markLatch l s).measure = s.measure
      ∧ (markLatch l s).command = s.command ∧ (markLatch l s).condition.alarmDue = s.condition.alarmDue
      ∧ (markLatch l s).condition.alarmSequence = s.condition.alarmSequence
      ∧ (markLatch l s).driveLane = s.driveLane := by
  unfold markLatch
  simp

/-- Setting or clearing report-due changes nothing else (R39). -/
@[simp] theorem setReportDue_frame (due : Bool) (s : State) :
    (setReportDue due s).pending = s.pending ∧ (setReportDue due s).control = s.control
      ∧ (setReportDue due s).line = s.line ∧ (setReportDue due s).peers = s.peers
      ∧ (setReportDue due s).reports.sequence = s.reports.sequence
      ∧ (setReportDue due s).reports.startCountdown = s.reports.startCountdown
      ∧ (setReportDue due s).reports.intervalTimer = s.reports.intervalTimer
      ∧ (setReportDue due s).reports.spacingTimer = s.reports.spacingTimer
      ∧ (setReportDue due s).reports.snapshot = s.reports.snapshot
      ∧ (setReportDue due s).share = s.share ∧ (setReportDue due s).limit = s.limit
      ∧ (setReportDue due s).valve = s.valve ∧ (setReportDue due s).head = s.head
      ∧ (setReportDue due s).measure = s.measure ∧ (setReportDue due s).command = s.command
      ∧ (setReportDue due s).condition = s.condition ∧ (setReportDue due s).driveLane = s.driveLane := by
  unfold setReportDue
  simp

/-- Setting or clearing alarm-due changes nothing else (R149). -/
@[simp] theorem setAlarmDue_frame (due : Bool) (s : State) :
    (setAlarmDue due s).pending = s.pending ∧ (setAlarmDue due s).control = s.control
      ∧ (setAlarmDue due s).line = s.line ∧ (setAlarmDue due s).peers = s.peers
      ∧ (setAlarmDue due s).reports = s.reports ∧ (setAlarmDue due s).share = s.share
      ∧ (setAlarmDue due s).limit = s.limit ∧ (setAlarmDue due s).valve = s.valve
      ∧ (setAlarmDue due s).head = s.head ∧ (setAlarmDue due s).measure = s.measure
      ∧ (setAlarmDue due s).command = s.command
      ∧ (setAlarmDue due s).condition.latches = s.condition.latches
      ∧ (setAlarmDue due s).condition.alarmSequence = s.condition.alarmSequence
      ∧ (setAlarmDue due s).driveLane = s.driveLane := by
  unfold setAlarmDue
  simp

/-- A departure noted changes restart-due only (R167). -/
@[simp] theorem noteDeparture_frame (e : TxEntry) (s : State) :
    (noteDeparture e s).pending = s.pending ∧ (noteDeparture e s).control = s.control
      ∧ (noteDeparture e s).line = s.line ∧ (noteDeparture e s).peers = s.peers
      ∧ (noteDeparture e s).reports = s.reports ∧ (noteDeparture e s).share = s.share
      ∧ (noteDeparture e s).limit = s.limit ∧ (noteDeparture e s).valve = s.valve
      ∧ (noteDeparture e s).head = s.head ∧ (noteDeparture e s).measure = s.measure
      ∧ (noteDeparture e s).command.accepted = s.command.accepted
      ∧ (noteDeparture e s).command.refused = s.command.refused
      ∧ (noteDeparture e s).condition = s.condition ∧ (noteDeparture e s).driveLane = s.driveLane := by
  unfold noteDeparture
  simp

/-- A lost reply counted changes REPLIES_LOST only (R157). -/
@[simp] theorem countReplyLost_frame (s : State) :
    (countReplyLost s).pending = s.pending ∧ (countReplyLost s).control = s.control
      ∧ (countReplyLost s).line.lineState = s.line.lineState
      ∧ (countReplyLost s).line.receiver = s.line.receiver
      ∧ (countReplyLost s).line.rxQueue = s.line.rxQueue
      ∧ (countReplyLost s).line.waiting = s.line.waiting
      ∧ (countReplyLost s).line.inFlight = s.line.inFlight
      ∧ (countReplyLost s).line.attempts = s.line.attempts
      ∧ (countReplyLost s).line.window = s.line.window
      ∧ (countReplyLost s).line.holdoff = s.line.holdoff ∧ (countReplyLost s).line.draws = s.line.draws
      ∧ (countReplyLost s).line.sending = s.line.sending
      ∧ (countReplyLost s).line.silenceTimer = s.line.silenceTimer
      ∧ (countReplyLost s).line.isolated = s.line.isolated
      ∧ (countReplyLost s).line.goodFrames = s.line.goodFrames
      ∧ (countReplyLost s).line.correctedGroups = s.line.correctedGroups
      ∧ (countReplyLost s).line.damagedFrames = s.line.damagedFrames
      ∧ (countReplyLost s).line.rxOverruns = s.line.rxOverruns
      ∧ (countReplyLost s).line.collisions = s.line.collisions
      ∧ (countReplyLost s).line.abandoned = s.line.abandoned ∧ (countReplyLost s).peers = s.peers
      ∧ (countReplyLost s).reports = s.reports ∧ (countReplyLost s).share = s.share
      ∧ (countReplyLost s).limit = s.limit ∧ (countReplyLost s).valve = s.valve
      ∧ (countReplyLost s).head = s.head ∧ (countReplyLost s).measure = s.measure
      ∧ (countReplyLost s).command = s.command ∧ (countReplyLost s).condition = s.condition
      ∧ (countReplyLost s).driveLane = s.driveLane := by
  unfold countReplyLost
  simp

/-- A displacement of the waiting REPORT changes the waiting entries and report-due only (R43, R157). -/
@[simp] theorem displaceReport_frame (others : List TxEntry) (e : TxEntry) (s : State) :
    (displaceReport others e s).pending = s.pending ∧ (displaceReport others e s).control = s.control
      ∧ (displaceReport others e s).line.lineState = s.line.lineState
      ∧ (displaceReport others e s).line.receiver = s.line.receiver
      ∧ (displaceReport others e s).line.rxQueue = s.line.rxQueue
      ∧ (displaceReport others e s).line.inFlight = s.line.inFlight
      ∧ (displaceReport others e s).line.attempts = s.line.attempts
      ∧ (displaceReport others e s).line.window = s.line.window
      ∧ (displaceReport others e s).line.holdoff = s.line.holdoff
      ∧ (displaceReport others e s).line.draws = s.line.draws
      ∧ (displaceReport others e s).line.sending = s.line.sending
      ∧ (displaceReport others e s).line.silenceTimer = s.line.silenceTimer
      ∧ (displaceReport others e s).line.isolated = s.line.isolated
      ∧ (displaceReport others e s).line.goodFrames = s.line.goodFrames
      ∧ (displaceReport others e s).line.correctedGroups = s.line.correctedGroups
      ∧ (displaceReport others e s).line.damagedFrames = s.line.damagedFrames
      ∧ (displaceReport others e s).line.rxOverruns = s.line.rxOverruns
      ∧ (displaceReport others e s).line.collisions = s.line.collisions
      ∧ (displaceReport others e s).line.abandoned = s.line.abandoned
      ∧ (displaceReport others e s).line.repliesLost = s.line.repliesLost
      ∧ (displaceReport others e s).peers = s.peers
      ∧ (displaceReport others e s).reports.sequence = s.reports.sequence
      ∧ (displaceReport others e s).reports.startCountdown = s.reports.startCountdown
      ∧ (displaceReport others e s).reports.intervalTimer = s.reports.intervalTimer
      ∧ (displaceReport others e s).reports.spacingTimer = s.reports.spacingTimer
      ∧ (displaceReport others e s).reports.snapshot = s.reports.snapshot
      ∧ (displaceReport others e s).share = s.share ∧ (displaceReport others e s).limit = s.limit
      ∧ (displaceReport others e s).valve = s.valve ∧ (displaceReport others e s).head = s.head
      ∧ (displaceReport others e s).measure = s.measure
      ∧ (displaceReport others e s).command = s.command
      ∧ (displaceReport others e s).condition = s.condition
      ∧ (displaceReport others e s).driveLane = s.driveLane := by
  unfold displaceReport
  simp

/-- An offered ALARM moves at most the waiting entries, REPLIES_LOST, report-due, the latches and restart-
due (R157). -/
@[simp] theorem offerAlarm_frame (s : State) :
    (offerAlarm s).pending = s.pending ∧ (offerAlarm s).control = s.control
      ∧ (offerAlarm s).line.lineState = s.line.lineState
      ∧ (offerAlarm s).line.receiver = s.line.receiver ∧ (offerAlarm s).line.rxQueue = s.line.rxQueue
      ∧ (offerAlarm s).line.inFlight = s.line.inFlight ∧ (offerAlarm s).line.attempts = s.line.attempts
      ∧ (offerAlarm s).line.window = s.line.window ∧ (offerAlarm s).line.holdoff = s.line.holdoff
      ∧ (offerAlarm s).line.draws = s.line.draws ∧ (offerAlarm s).line.sending = s.line.sending
      ∧ (offerAlarm s).line.silenceTimer = s.line.silenceTimer
      ∧ (offerAlarm s).line.isolated = s.line.isolated
      ∧ (offerAlarm s).line.goodFrames = s.line.goodFrames
      ∧ (offerAlarm s).line.correctedGroups = s.line.correctedGroups
      ∧ (offerAlarm s).line.damagedFrames = s.line.damagedFrames
      ∧ (offerAlarm s).line.rxOverruns = s.line.rxOverruns
      ∧ (offerAlarm s).line.collisions = s.line.collisions
      ∧ (offerAlarm s).line.abandoned = s.line.abandoned ∧ (offerAlarm s).peers = s.peers
      ∧ (offerAlarm s).reports.sequence = s.reports.sequence
      ∧ (offerAlarm s).reports.startCountdown = s.reports.startCountdown
      ∧ (offerAlarm s).reports.intervalTimer = s.reports.intervalTimer
      ∧ (offerAlarm s).reports.spacingTimer = s.reports.spacingTimer
      ∧ (offerAlarm s).reports.snapshot = s.reports.snapshot ∧ (offerAlarm s).share = s.share
      ∧ (offerAlarm s).limit = s.limit ∧ (offerAlarm s).valve = s.valve ∧ (offerAlarm s).head = s.head
      ∧ (offerAlarm s).measure = s.measure ∧ (offerAlarm s).command.accepted = s.command.accepted
      ∧ (offerAlarm s).command.refused = s.command.refused
      ∧ (offerAlarm s).condition.alarmDue = s.condition.alarmDue
      ∧ (offerAlarm s).condition.alarmSequence = s.condition.alarmSequence
      ∧ (offerAlarm s).driveLane = s.driveLane := by
  unfold offerAlarm
  (repeat' split) <;> simp

/-- Setting a latch moves at most the latches, alarm-due and what an offered ALARM moves (R148, R157). -/
@[simp] theorem setLatch_frame (l : Latch) (s : State) :
    (setLatch l s).pending = s.pending ∧ (setLatch l s).control = s.control
      ∧ (setLatch l s).line.lineState = s.line.lineState
      ∧ (setLatch l s).line.receiver = s.line.receiver ∧ (setLatch l s).line.rxQueue = s.line.rxQueue
      ∧ (setLatch l s).line.inFlight = s.line.inFlight ∧ (setLatch l s).line.attempts = s.line.attempts
      ∧ (setLatch l s).line.window = s.line.window ∧ (setLatch l s).line.holdoff = s.line.holdoff
      ∧ (setLatch l s).line.draws = s.line.draws ∧ (setLatch l s).line.sending = s.line.sending
      ∧ (setLatch l s).line.silenceTimer = s.line.silenceTimer
      ∧ (setLatch l s).line.isolated = s.line.isolated
      ∧ (setLatch l s).line.goodFrames = s.line.goodFrames
      ∧ (setLatch l s).line.correctedGroups = s.line.correctedGroups
      ∧ (setLatch l s).line.damagedFrames = s.line.damagedFrames
      ∧ (setLatch l s).line.rxOverruns = s.line.rxOverruns
      ∧ (setLatch l s).line.collisions = s.line.collisions
      ∧ (setLatch l s).line.abandoned = s.line.abandoned ∧ (setLatch l s).peers = s.peers
      ∧ (setLatch l s).reports.sequence = s.reports.sequence
      ∧ (setLatch l s).reports.startCountdown = s.reports.startCountdown
      ∧ (setLatch l s).reports.intervalTimer = s.reports.intervalTimer
      ∧ (setLatch l s).reports.spacingTimer = s.reports.spacingTimer
      ∧ (setLatch l s).reports.snapshot = s.reports.snapshot ∧ (setLatch l s).share = s.share
      ∧ (setLatch l s).limit = s.limit ∧ (setLatch l s).valve = s.valve ∧ (setLatch l s).head = s.head
      ∧ (setLatch l s).measure = s.measure ∧ (setLatch l s).command.accepted = s.command.accepted
      ∧ (setLatch l s).command.refused = s.command.refused
      ∧ (setLatch l s).condition.alarmSequence = s.condition.alarmSequence
      ∧ (setLatch l s).driveLane = s.driveLane := by
  unfold setLatch
  (repeat' split) <;> simp

/-- An offered REPLY moves at most the waiting entries, REPLIES_LOST, report-due, restart-due, and what
latching REPLY_LOST moves (R157). -/
@[simp] theorem offerReply_frame (r : Reply) (s : State) :
    (offerReply r s).pending = s.pending ∧ (offerReply r s).control = s.control
      ∧ (offerReply r s).line.lineState = s.line.lineState
      ∧ (offerReply r s).line.receiver = s.line.receiver
      ∧ (offerReply r s).line.rxQueue = s.line.rxQueue
      ∧ (offerReply r s).line.inFlight = s.line.inFlight
      ∧ (offerReply r s).line.attempts = s.line.attempts ∧ (offerReply r s).line.window = s.line.window
      ∧ (offerReply r s).line.holdoff = s.line.holdoff ∧ (offerReply r s).line.draws = s.line.draws
      ∧ (offerReply r s).line.sending = s.line.sending
      ∧ (offerReply r s).line.silenceTimer = s.line.silenceTimer
      ∧ (offerReply r s).line.isolated = s.line.isolated
      ∧ (offerReply r s).line.goodFrames = s.line.goodFrames
      ∧ (offerReply r s).line.correctedGroups = s.line.correctedGroups
      ∧ (offerReply r s).line.damagedFrames = s.line.damagedFrames
      ∧ (offerReply r s).line.rxOverruns = s.line.rxOverruns
      ∧ (offerReply r s).line.collisions = s.line.collisions
      ∧ (offerReply r s).line.abandoned = s.line.abandoned ∧ (offerReply r s).peers = s.peers
      ∧ (offerReply r s).reports.sequence = s.reports.sequence
      ∧ (offerReply r s).reports.startCountdown = s.reports.startCountdown
      ∧ (offerReply r s).reports.intervalTimer = s.reports.intervalTimer
      ∧ (offerReply r s).reports.spacingTimer = s.reports.spacingTimer
      ∧ (offerReply r s).reports.snapshot = s.reports.snapshot ∧ (offerReply r s).share = s.share
      ∧ (offerReply r s).limit = s.limit ∧ (offerReply r s).valve = s.valve
      ∧ (offerReply r s).head = s.head ∧ (offerReply r s).measure = s.measure
      ∧ (offerReply r s).command.accepted = s.command.accepted
      ∧ (offerReply r s).command.refused = s.command.refused
      ∧ (offerReply r s).condition.alarmSequence = s.condition.alarmSequence
      ∧ (offerReply r s).driveLane = s.driveLane := by
  unfold offerReply
  (repeat' split) <;> simp

/-- Queuing a report moves at most the waiting entries, report-due and the two report timers (R42). -/
@[simp] theorem queueReport_frame (s : State) :
    (queueReport s).pending = s.pending ∧ (queueReport s).control = s.control
      ∧ (queueReport s).line.lineState = s.line.lineState
      ∧ (queueReport s).line.receiver = s.line.receiver ∧ (queueReport s).line.rxQueue = s.line.rxQueue
      ∧ (queueReport s).line.inFlight = s.line.inFlight
      ∧ (queueReport s).line.attempts = s.line.attempts ∧ (queueReport s).line.window = s.line.window
      ∧ (queueReport s).line.holdoff = s.line.holdoff ∧ (queueReport s).line.draws = s.line.draws
      ∧ (queueReport s).line.sending = s.line.sending
      ∧ (queueReport s).line.silenceTimer = s.line.silenceTimer
      ∧ (queueReport s).line.isolated = s.line.isolated
      ∧ (queueReport s).line.goodFrames = s.line.goodFrames
      ∧ (queueReport s).line.correctedGroups = s.line.correctedGroups
      ∧ (queueReport s).line.damagedFrames = s.line.damagedFrames
      ∧ (queueReport s).line.rxOverruns = s.line.rxOverruns
      ∧ (queueReport s).line.collisions = s.line.collisions
      ∧ (queueReport s).line.abandoned = s.line.abandoned
      ∧ (queueReport s).line.repliesLost = s.line.repliesLost ∧ (queueReport s).peers = s.peers
      ∧ (queueReport s).reports.sequence = s.reports.sequence
      ∧ (queueReport s).reports.startCountdown = s.reports.startCountdown
      ∧ (queueReport s).reports.snapshot = s.reports.snapshot ∧ (queueReport s).share = s.share
      ∧ (queueReport s).limit = s.limit ∧ (queueReport s).valve = s.valve
      ∧ (queueReport s).head = s.head ∧ (queueReport s).measure = s.measure
      ∧ (queueReport s).command = s.command ∧ (queueReport s).condition = s.condition
      ∧ (queueReport s).driveLane = s.driveLane := by
  unfold queueReport
  (repeat' split) <;> simp

/-- A choice of the arbiter moves the Transmit Queue and the in-flight entry's figures only (R158). -/
@[simp] theorem arbitrate_frame (s : State) :
    (arbitrate s).pending = s.pending ∧ (arbitrate s).control = s.control
      ∧ (arbitrate s).line.lineState = s.line.lineState ∧ (arbitrate s).line.receiver = s.line.receiver
      ∧ (arbitrate s).line.rxQueue = s.line.rxQueue ∧ (arbitrate s).line.sending = s.line.sending
      ∧ (arbitrate s).line.silenceTimer = s.line.silenceTimer
      ∧ (arbitrate s).line.isolated = s.line.isolated
      ∧ (arbitrate s).line.goodFrames = s.line.goodFrames
      ∧ (arbitrate s).line.correctedGroups = s.line.correctedGroups
      ∧ (arbitrate s).line.damagedFrames = s.line.damagedFrames
      ∧ (arbitrate s).line.rxOverruns = s.line.rxOverruns
      ∧ (arbitrate s).line.collisions = s.line.collisions
      ∧ (arbitrate s).line.abandoned = s.line.abandoned
      ∧ (arbitrate s).line.repliesLost = s.line.repliesLost ∧ (arbitrate s).peers = s.peers
      ∧ (arbitrate s).reports = s.reports ∧ (arbitrate s).share = s.share
      ∧ (arbitrate s).limit = s.limit ∧ (arbitrate s).valve = s.valve ∧ (arbitrate s).head = s.head
      ∧ (arbitrate s).measure = s.measure ∧ (arbitrate s).command = s.command
      ∧ (arbitrate s).condition = s.condition ∧ (arbitrate s).driveLane = s.driveLane := by
  unfold arbitrate drawHoldoff
  (repeat' split) <;> simp

/-- A trigger changes the count of triggers only (R49). -/
@[simp] theorem shareTrigger_frame (s : State) :
    (shareTrigger s).pending = s.pending ∧ (shareTrigger s).control = s.control
      ∧ (shareTrigger s).line = s.line ∧ (shareTrigger s).peers = s.peers
      ∧ (shareTrigger s).reports = s.reports ∧ (shareTrigger s).share.record = s.share.record
      ∧ (shareTrigger s).limit = s.limit ∧ (shareTrigger s).valve = s.valve
      ∧ (shareTrigger s).head = s.head ∧ (shareTrigger s).measure = s.measure
      ∧ (shareTrigger s).command = s.command ∧ (shareTrigger s).condition = s.condition
      ∧ (shareTrigger s).driveLane = s.driveLane := by
  unfold shareTrigger
  (repeat' split) <;> simp

/-- A recomputation changes the offer and its basis only (R108, R109). -/
@[simp] theorem recomputeOffer_frame (s : State) :
    (recomputeOffer s).pending = s.pending ∧ (recomputeOffer s).control = s.control
      ∧ (recomputeOffer s).line = s.line ∧ (recomputeOffer s).peers = s.peers
      ∧ (recomputeOffer s).reports = s.reports ∧ (recomputeOffer s).share = s.share
      ∧ (recomputeOffer s).limit = s.limit ∧ (recomputeOffer s).valve = s.valve
      ∧ (recomputeOffer s).head.setpoint = s.head.setpoint
      ∧ (recomputeOffer s).head.critical = s.head.critical
      ∧ (recomputeOffer s).head.criticalMargin = s.head.criticalMargin
      ∧ (recomputeOffer s).head.eligible = s.head.eligible
      ∧ (recomputeOffer s).head.starvedEligible = s.head.starvedEligible
      ∧ (recomputeOffer s).head.headCase = s.head.headCase
      ∧ (recomputeOffer s).head.lastMovement = s.head.lastMovement
      ∧ (recomputeOffer s).head.periodTimer = s.head.periodTimer
      ∧ (recomputeOffer s).measure = s.measure ∧ (recomputeOffer s).command = s.command
      ∧ (recomputeOffer s).condition = s.condition ∧ (recomputeOffer s).driveLane = s.driveLane := by
  unfold recomputeOffer
  (repeat' split) <;> simp

/-- Replacing an input changes the inputs only (R133). -/
@[simp] theorem setInput_frame (i : InputName) (v : Input) (s : State) :
    (setInput i v s).pending = s.pending ∧ (setInput i v s).control = s.control
      ∧ (setInput i v s).line = s.line ∧ (setInput i v s).peers = s.peers
      ∧ (setInput i v s).reports = s.reports ∧ (setInput i v s).share = s.share
      ∧ (setInput i v s).limit = s.limit ∧ (setInput i v s).valve = s.valve
      ∧ (setInput i v s).head = s.head ∧ (setInput i v s).measure.fields = s.measure.fields
      ∧ (setInput i v s).measure.dpf = s.measure.dpf
      ∧ (setInput i v s).measure.sampleTimer = s.measure.sampleTimer
      ∧ (setInput i v s).measure.functions = s.measure.functions ∧ (setInput i v s).command = s.command
      ∧ (setInput i v s).condition = s.condition ∧ (setInput i v s).driveLane = s.driveLane := by
  unfold setInput
  simp

/-- A recognised change moves the inputs, the offer and what latching INPUT_CHANGE moves (R134). -/
@[simp] theorem recogniseChange_frame (i : InputName) (s : State) :
    (recogniseChange i s).pending = s.pending ∧ (recogniseChange i s).control = s.control
      ∧ (recogniseChange i s).line.lineState = s.line.lineState
      ∧ (recogniseChange i s).line.receiver = s.line.receiver
      ∧ (recogniseChange i s).line.rxQueue = s.line.rxQueue
      ∧ (recogniseChange i s).line.inFlight = s.line.inFlight
      ∧ (recogniseChange i s).line.attempts = s.line.attempts
      ∧ (recogniseChange i s).line.window = s.line.window
      ∧ (recogniseChange i s).line.holdoff = s.line.holdoff
      ∧ (recogniseChange i s).line.draws = s.line.draws
      ∧ (recogniseChange i s).line.sending = s.line.sending
      ∧ (recogniseChange i s).line.silenceTimer = s.line.silenceTimer
      ∧ (recogniseChange i s).line.isolated = s.line.isolated
      ∧ (recogniseChange i s).line.goodFrames = s.line.goodFrames
      ∧ (recogniseChange i s).line.correctedGroups = s.line.correctedGroups
      ∧ (recogniseChange i s).line.damagedFrames = s.line.damagedFrames
      ∧ (recogniseChange i s).line.rxOverruns = s.line.rxOverruns
      ∧ (recogniseChange i s).line.collisions = s.line.collisions
      ∧ (recogniseChange i s).line.abandoned = s.line.abandoned ∧ (recogniseChange i s).peers = s.peers
      ∧ (recogniseChange i s).reports.sequence = s.reports.sequence
      ∧ (recogniseChange i s).reports.startCountdown = s.reports.startCountdown
      ∧ (recogniseChange i s).reports.intervalTimer = s.reports.intervalTimer
      ∧ (recogniseChange i s).reports.spacingTimer = s.reports.spacingTimer
      ∧ (recogniseChange i s).reports.snapshot = s.reports.snapshot
      ∧ (recogniseChange i s).share = s.share ∧ (recogniseChange i s).limit = s.limit
      ∧ (recogniseChange i s).valve = s.valve ∧ (recogniseChange i s).head.setpoint = s.head.setpoint
      ∧ (recogniseChange i s).head.critical = s.head.critical
      ∧ (recogniseChange i s).head.criticalMargin = s.head.criticalMargin
      ∧ (recogniseChange i s).head.eligible = s.head.eligible
      ∧ (recogniseChange i s).head.starvedEligible = s.head.starvedEligible
      ∧ (recogniseChange i s).head.headCase = s.head.headCase
      ∧ (recogniseChange i s).head.lastMovement = s.head.lastMovement
      ∧ (recogniseChange i s).head.periodTimer = s.head.periodTimer
      ∧ (recogniseChange i s).measure.fields = s.measure.fields
      ∧ (recogniseChange i s).measure.dpf = s.measure.dpf
      ∧ (recogniseChange i s).measure.sampleTimer = s.measure.sampleTimer
      ∧ (recogniseChange i s).measure.functions = s.measure.functions
      ∧ (recogniseChange i s).command.accepted = s.command.accepted
      ∧ (recogniseChange i s).command.refused = s.command.refused
      ∧ (recogniseChange i s).condition.alarmSequence = s.condition.alarmSequence
      ∧ (recogniseChange i s).driveLane = s.driveLane := by
  unfold recogniseChange
  split <;> simp

/-- A raw level dealt with moves what a recognised change moves (R133). -/
@[simp] theorem rawChanged_frame (i : InputName) (s : State) :
    (rawChanged i s).pending = s.pending ∧ (rawChanged i s).control = s.control
      ∧ (rawChanged i s).line.lineState = s.line.lineState
      ∧ (rawChanged i s).line.receiver = s.line.receiver
      ∧ (rawChanged i s).line.rxQueue = s.line.rxQueue
      ∧ (rawChanged i s).line.inFlight = s.line.inFlight
      ∧ (rawChanged i s).line.attempts = s.line.attempts ∧ (rawChanged i s).line.window = s.line.window
      ∧ (rawChanged i s).line.holdoff = s.line.holdoff ∧ (rawChanged i s).line.draws = s.line.draws
      ∧ (rawChanged i s).line.sending = s.line.sending
      ∧ (rawChanged i s).line.silenceTimer = s.line.silenceTimer
      ∧ (rawChanged i s).line.isolated = s.line.isolated
      ∧ (rawChanged i s).line.goodFrames = s.line.goodFrames
      ∧ (rawChanged i s).line.correctedGroups = s.line.correctedGroups
      ∧ (rawChanged i s).line.damagedFrames = s.line.damagedFrames
      ∧ (rawChanged i s).line.rxOverruns = s.line.rxOverruns
      ∧ (rawChanged i s).line.collisions = s.line.collisions
      ∧ (rawChanged i s).line.abandoned = s.line.abandoned ∧ (rawChanged i s).peers = s.peers
      ∧ (rawChanged i s).reports.sequence = s.reports.sequence
      ∧ (rawChanged i s).reports.startCountdown = s.reports.startCountdown
      ∧ (rawChanged i s).reports.intervalTimer = s.reports.intervalTimer
      ∧ (rawChanged i s).reports.spacingTimer = s.reports.spacingTimer
      ∧ (rawChanged i s).reports.snapshot = s.reports.snapshot ∧ (rawChanged i s).share = s.share
      ∧ (rawChanged i s).limit = s.limit ∧ (rawChanged i s).valve = s.valve
      ∧ (rawChanged i s).head.setpoint = s.head.setpoint
      ∧ (rawChanged i s).head.critical = s.head.critical
      ∧ (rawChanged i s).head.criticalMargin = s.head.criticalMargin
      ∧ (rawChanged i s).head.eligible = s.head.eligible
      ∧ (rawChanged i s).head.starvedEligible = s.head.starvedEligible
      ∧ (rawChanged i s).head.headCase = s.head.headCase
      ∧ (rawChanged i s).head.lastMovement = s.head.lastMovement
      ∧ (rawChanged i s).head.periodTimer = s.head.periodTimer
      ∧ (rawChanged i s).measure.fields = s.measure.fields
      ∧ (rawChanged i s).measure.dpf = s.measure.dpf
      ∧ (rawChanged i s).measure.sampleTimer = s.measure.sampleTimer
      ∧ (rawChanged i s).measure.functions = s.measure.functions
      ∧ (rawChanged i s).command.accepted = s.command.accepted
      ∧ (rawChanged i s).command.refused = s.command.refused
      ∧ (rawChanged i s).condition.alarmSequence = s.condition.alarmSequence
      ∧ (rawChanged i s).driveLane = s.driveLane := by
  unfold rawChanged
  dsimp only
  split_ifs <;> simp

/-! ### What the accessors read after them -/

@[simp] theorem enqueue_reads (e : TxEntry) (s : State) :
    (enqueue e s).active = s.active ∧ (enqueue e s).speaking = s.speaking
      ∧ (enqueue e s).config = s.config ∧ (enqueue e s).band = s.band
      ∧ (enqueue e s).isTransfer = s.isTransfer ∧ (enqueue e s).isPlant = s.isPlant
      ∧ (enqueue e s).senderMode = s.senderMode ∧ (enqueue e s).liveHold = s.liveHold
      ∧ (enqueue e s).trip = s.trip ∧ (enqueue e s).shedCap = s.shedCap
      ∧ (∀ k, (enqueue e s).urgent k = s.urgent k) ∧ (∀ k, (enqueue e s).latched k = s.latched k)
      ∧ (∀ n, (enqueue e s).reading n = s.reading n) := by
  simp [State.active, State.speaking, State.config, State.band, State.isTransfer, State.isPlant,
    State.senderMode, State.liveHold, State.trip, State.shedCap, State.urgent, State.latched,
    State.reading]

@[simp] theorem markLatch_reads (l : Latch) (s : State) :
    (markLatch l s).active = s.active ∧ (markLatch l s).speaking = s.speaking
      ∧ (markLatch l s).config = s.config ∧ (markLatch l s).band = s.band
      ∧ (markLatch l s).isTransfer = s.isTransfer ∧ (markLatch l s).isPlant = s.isPlant
      ∧ (markLatch l s).senderMode = s.senderMode ∧ (markLatch l s).liveHold = s.liveHold
      ∧ (markLatch l s).trip = s.trip ∧ (markLatch l s).shedCap = s.shedCap
      ∧ (∀ k, (markLatch l s).urgent k = s.urgent k) ∧ (∀ n, (markLatch l s).reading n = s.reading n) := by
  simp [State.active, State.speaking, State.config, State.band, State.isTransfer, State.isPlant,
    State.senderMode, State.liveHold, State.trip, State.shedCap, State.urgent, State.reading]

@[simp] theorem setReportDue_reads (due : Bool) (s : State) :
    (setReportDue due s).active = s.active ∧ (setReportDue due s).speaking = s.speaking
      ∧ (setReportDue due s).config = s.config ∧ (setReportDue due s).band = s.band
      ∧ (setReportDue due s).isTransfer = s.isTransfer ∧ (setReportDue due s).isPlant = s.isPlant
      ∧ (setReportDue due s).senderMode = s.senderMode ∧ (setReportDue due s).liveHold = s.liveHold
      ∧ (setReportDue due s).trip = s.trip ∧ (setReportDue due s).shedCap = s.shedCap
      ∧ (∀ k, (setReportDue due s).urgent k = s.urgent k)
      ∧ (∀ k, (setReportDue due s).latched k = s.latched k)
      ∧ (∀ n, (setReportDue due s).reading n = s.reading n) := by
  simp [State.active, State.speaking, State.config, State.band, State.isTransfer, State.isPlant,
    State.senderMode, State.liveHold, State.trip, State.shedCap, State.urgent, State.latched,
    State.reading]

@[simp] theorem setAlarmDue_reads (due : Bool) (s : State) :
    (setAlarmDue due s).active = s.active ∧ (setAlarmDue due s).speaking = s.speaking
      ∧ (setAlarmDue due s).config = s.config ∧ (setAlarmDue due s).band = s.band
      ∧ (setAlarmDue due s).isTransfer = s.isTransfer ∧ (setAlarmDue due s).isPlant = s.isPlant
      ∧ (setAlarmDue due s).senderMode = s.senderMode ∧ (setAlarmDue due s).liveHold = s.liveHold
      ∧ (setAlarmDue due s).trip = s.trip ∧ (setAlarmDue due s).shedCap = s.shedCap
      ∧ (∀ k, (setAlarmDue due s).urgent k = s.urgent k)
      ∧ (∀ k, (setAlarmDue due s).latched k = s.latched k)
      ∧ (∀ n, (setAlarmDue due s).reading n = s.reading n) := by
  simp [State.active, State.speaking, State.config, State.band, State.isTransfer, State.isPlant,
    State.senderMode, State.liveHold, State.trip, State.shedCap, State.urgent, State.latched,
    State.reading]

@[simp] theorem noteDeparture_reads (e : TxEntry) (s : State) :
    (noteDeparture e s).active = s.active ∧ (noteDeparture e s).speaking = s.speaking
      ∧ (noteDeparture e s).config = s.config ∧ (noteDeparture e s).band = s.band
      ∧ (noteDeparture e s).isTransfer = s.isTransfer ∧ (noteDeparture e s).isPlant = s.isPlant
      ∧ (noteDeparture e s).senderMode = s.senderMode ∧ (noteDeparture e s).liveHold = s.liveHold
      ∧ (noteDeparture e s).trip = s.trip ∧ (noteDeparture e s).shedCap = s.shedCap
      ∧ (∀ k, (noteDeparture e s).urgent k = s.urgent k)
      ∧ (∀ k, (noteDeparture e s).latched k = s.latched k)
      ∧ (∀ n, (noteDeparture e s).reading n = s.reading n) := by
  simp [State.active, State.speaking, State.config, State.band, State.isTransfer, State.isPlant,
    State.senderMode, State.liveHold, State.trip, State.shedCap, State.urgent, State.latched,
    State.reading]

@[simp] theorem countReplyLost_reads (s : State) :
    (countReplyLost s).active = s.active ∧ (countReplyLost s).speaking = s.speaking
      ∧ (countReplyLost s).config = s.config ∧ (countReplyLost s).band = s.band
      ∧ (countReplyLost s).isTransfer = s.isTransfer ∧ (countReplyLost s).isPlant = s.isPlant
      ∧ (countReplyLost s).senderMode = s.senderMode ∧ (countReplyLost s).liveHold = s.liveHold
      ∧ (countReplyLost s).trip = s.trip ∧ (countReplyLost s).shedCap = s.shedCap
      ∧ (∀ k, (countReplyLost s).urgent k = s.urgent k)
      ∧ (∀ k, (countReplyLost s).latched k = s.latched k)
      ∧ (∀ n, (countReplyLost s).reading n = s.reading n) := by
  simp [State.active, State.speaking, State.config, State.band, State.isTransfer, State.isPlant,
    State.senderMode, State.liveHold, State.trip, State.shedCap, State.urgent, State.latched,
    State.reading]

@[simp] theorem displaceReport_reads (others : List TxEntry) (e : TxEntry) (s : State) :
    (displaceReport others e s).active = s.active ∧ (displaceReport others e s).speaking = s.speaking
      ∧ (displaceReport others e s).config = s.config ∧ (displaceReport others e s).band = s.band
      ∧ (displaceReport others e s).isTransfer = s.isTransfer
      ∧ (displaceReport others e s).isPlant = s.isPlant
      ∧ (displaceReport others e s).senderMode = s.senderMode
      ∧ (displaceReport others e s).liveHold = s.liveHold ∧ (displaceReport others e s).trip = s.trip
      ∧ (displaceReport others e s).shedCap = s.shedCap
      ∧ (∀ k, (displaceReport others e s).urgent k = s.urgent k)
      ∧ (∀ k, (displaceReport others e s).latched k = s.latched k)
      ∧ (∀ n, (displaceReport others e s).reading n = s.reading n) := by
  simp [State.active, State.speaking, State.config, State.band, State.isTransfer, State.isPlant,
    State.senderMode, State.liveHold, State.trip, State.shedCap, State.urgent, State.latched,
    State.reading]

@[simp] theorem offerAlarm_reads (s : State) :
    (offerAlarm s).active = s.active ∧ (offerAlarm s).speaking = s.speaking
      ∧ (offerAlarm s).config = s.config ∧ (offerAlarm s).band = s.band
      ∧ (offerAlarm s).isTransfer = s.isTransfer ∧ (offerAlarm s).isPlant = s.isPlant
      ∧ (offerAlarm s).senderMode = s.senderMode ∧ (offerAlarm s).liveHold = s.liveHold
      ∧ (offerAlarm s).trip = s.trip ∧ (offerAlarm s).shedCap = s.shedCap
      ∧ (∀ k, (offerAlarm s).urgent k = s.urgent k) ∧ (∀ n, (offerAlarm s).reading n = s.reading n) := by
  simp [State.active, State.speaking, State.config, State.band, State.isTransfer, State.isPlant,
    State.senderMode, State.liveHold, State.trip, State.shedCap, State.urgent, State.reading]

@[simp] theorem setLatch_reads (l : Latch) (s : State) :
    (setLatch l s).active = s.active ∧ (setLatch l s).speaking = s.speaking
      ∧ (setLatch l s).config = s.config ∧ (setLatch l s).band = s.band
      ∧ (setLatch l s).isTransfer = s.isTransfer ∧ (setLatch l s).isPlant = s.isPlant
      ∧ (setLatch l s).senderMode = s.senderMode ∧ (setLatch l s).liveHold = s.liveHold
      ∧ (setLatch l s).trip = s.trip ∧ (setLatch l s).shedCap = s.shedCap
      ∧ (∀ k, (setLatch l s).urgent k = s.urgent k) ∧ (∀ n, (setLatch l s).reading n = s.reading n) := by
  simp [State.active, State.speaking, State.config, State.band, State.isTransfer, State.isPlant,
    State.senderMode, State.liveHold, State.trip, State.shedCap, State.urgent, State.reading]

@[simp] theorem offerReply_reads (r : Reply) (s : State) :
    (offerReply r s).active = s.active ∧ (offerReply r s).speaking = s.speaking
      ∧ (offerReply r s).config = s.config ∧ (offerReply r s).band = s.band
      ∧ (offerReply r s).isTransfer = s.isTransfer ∧ (offerReply r s).isPlant = s.isPlant
      ∧ (offerReply r s).senderMode = s.senderMode ∧ (offerReply r s).liveHold = s.liveHold
      ∧ (offerReply r s).trip = s.trip ∧ (offerReply r s).shedCap = s.shedCap
      ∧ (∀ k, (offerReply r s).urgent k = s.urgent k) ∧ (∀ n, (offerReply r s).reading n = s.reading n) := by
  simp [State.active, State.speaking, State.config, State.band, State.isTransfer, State.isPlant,
    State.senderMode, State.liveHold, State.trip, State.shedCap, State.urgent, State.reading]

@[simp] theorem queueReport_reads (s : State) :
    (queueReport s).active = s.active ∧ (queueReport s).speaking = s.speaking
      ∧ (queueReport s).config = s.config ∧ (queueReport s).band = s.band
      ∧ (queueReport s).isTransfer = s.isTransfer ∧ (queueReport s).isPlant = s.isPlant
      ∧ (queueReport s).senderMode = s.senderMode ∧ (queueReport s).liveHold = s.liveHold
      ∧ (queueReport s).trip = s.trip ∧ (queueReport s).shedCap = s.shedCap
      ∧ (∀ k, (queueReport s).urgent k = s.urgent k) ∧ (∀ k, (queueReport s).latched k = s.latched k)
      ∧ (∀ n, (queueReport s).reading n = s.reading n) := by
  simp [State.active, State.speaking, State.config, State.band, State.isTransfer, State.isPlant,
    State.senderMode, State.liveHold, State.trip, State.shedCap, State.urgent, State.latched,
    State.reading]

@[simp] theorem arbitrate_reads (s : State) :
    (arbitrate s).active = s.active ∧ (arbitrate s).speaking = s.speaking
      ∧ (arbitrate s).config = s.config ∧ (arbitrate s).band = s.band
      ∧ (arbitrate s).isTransfer = s.isTransfer ∧ (arbitrate s).isPlant = s.isPlant
      ∧ (arbitrate s).senderMode = s.senderMode ∧ (arbitrate s).liveHold = s.liveHold
      ∧ (arbitrate s).trip = s.trip ∧ (arbitrate s).shedCap = s.shedCap
      ∧ (∀ k, (arbitrate s).urgent k = s.urgent k) ∧ (∀ k, (arbitrate s).latched k = s.latched k)
      ∧ (∀ n, (arbitrate s).reading n = s.reading n) := by
  simp [State.active, State.speaking, State.config, State.band, State.isTransfer, State.isPlant,
    State.senderMode, State.liveHold, State.trip, State.shedCap, State.urgent, State.latched,
    State.reading]

@[simp] theorem shareTrigger_reads (s : State) :
    (shareTrigger s).active = s.active ∧ (shareTrigger s).speaking = s.speaking
      ∧ (shareTrigger s).config = s.config ∧ (shareTrigger s).band = s.band
      ∧ (shareTrigger s).isTransfer = s.isTransfer ∧ (shareTrigger s).isPlant = s.isPlant
      ∧ (shareTrigger s).senderMode = s.senderMode ∧ (shareTrigger s).liveHold = s.liveHold
      ∧ (shareTrigger s).trip = s.trip ∧ (shareTrigger s).shedCap = s.shedCap
      ∧ (∀ k, (shareTrigger s).urgent k = s.urgent k) ∧ (∀ k, (shareTrigger s).latched k = s.latched k)
      ∧ (∀ n, (shareTrigger s).reading n = s.reading n) := by
  simp [State.active, State.speaking, State.config, State.band, State.isTransfer, State.isPlant,
    State.senderMode, State.liveHold, State.trip, State.shedCap, State.urgent, State.latched,
    State.reading]

@[simp] theorem recomputeOffer_reads (s : State) :
    (recomputeOffer s).active = s.active ∧ (recomputeOffer s).speaking = s.speaking
      ∧ (recomputeOffer s).config = s.config ∧ (recomputeOffer s).band = s.band
      ∧ (recomputeOffer s).isTransfer = s.isTransfer ∧ (recomputeOffer s).isPlant = s.isPlant
      ∧ (recomputeOffer s).senderMode = s.senderMode ∧ (recomputeOffer s).liveHold = s.liveHold
      ∧ (recomputeOffer s).trip = s.trip ∧ (recomputeOffer s).shedCap = s.shedCap
      ∧ (∀ k, (recomputeOffer s).urgent k = s.urgent k)
      ∧ (∀ k, (recomputeOffer s).latched k = s.latched k)
      ∧ (∀ n, (recomputeOffer s).reading n = s.reading n) := by
  simp [State.active, State.speaking, State.config, State.band, State.isTransfer, State.isPlant,
    State.senderMode, State.liveHold, State.trip, State.shedCap, State.urgent, State.latched,
    State.reading]

@[simp] theorem setInput_reads (i : InputName) (v : Input) (s : State) :
    (setInput i v s).active = s.active ∧ (setInput i v s).speaking = s.speaking
      ∧ (setInput i v s).config = s.config ∧ (setInput i v s).band = s.band
      ∧ (setInput i v s).isTransfer = s.isTransfer ∧ (setInput i v s).isPlant = s.isPlant
      ∧ (setInput i v s).senderMode = s.senderMode ∧ (setInput i v s).liveHold = s.liveHold
      ∧ (setInput i v s).shedCap = s.shedCap ∧ (∀ k, (setInput i v s).urgent k = s.urgent k)
      ∧ (∀ k, (setInput i v s).latched k = s.latched k)
      ∧ (∀ n, (setInput i v s).reading n = s.reading n) := by
  simp [State.active, State.speaking, State.config, State.band, State.isTransfer, State.isPlant,
    State.senderMode, State.liveHold, State.shedCap, State.urgent, State.latched, State.reading]

@[simp] theorem recogniseChange_reads (i : InputName) (s : State) :
    (recogniseChange i s).active = s.active ∧ (recogniseChange i s).speaking = s.speaking
      ∧ (recogniseChange i s).config = s.config ∧ (recogniseChange i s).band = s.band
      ∧ (recogniseChange i s).isTransfer = s.isTransfer ∧ (recogniseChange i s).isPlant = s.isPlant
      ∧ (recogniseChange i s).senderMode = s.senderMode ∧ (recogniseChange i s).liveHold = s.liveHold
      ∧ (recogniseChange i s).shedCap = s.shedCap ∧ (∀ k, (recogniseChange i s).urgent k = s.urgent k)
      ∧ (∀ n, (recogniseChange i s).reading n = s.reading n) := by
  simp [State.active, State.speaking, State.config, State.band, State.isTransfer, State.isPlant,
    State.senderMode, State.liveHold, State.shedCap, State.urgent, State.reading]

@[simp] theorem rawChanged_reads (i : InputName) (s : State) :
    (rawChanged i s).active = s.active ∧ (rawChanged i s).speaking = s.speaking
      ∧ (rawChanged i s).config = s.config ∧ (rawChanged i s).band = s.band
      ∧ (rawChanged i s).isTransfer = s.isTransfer ∧ (rawChanged i s).isPlant = s.isPlant
      ∧ (rawChanged i s).senderMode = s.senderMode ∧ (rawChanged i s).liveHold = s.liveHold
      ∧ (rawChanged i s).shedCap = s.shedCap ∧ (∀ k, (rawChanged i s).urgent k = s.urgent k)
      ∧ (∀ n, (rawChanged i s).reading n = s.reading n) := by
  simp [State.active, State.speaking, State.config, State.band, State.isTransfer, State.isPlant,
    State.senderMode, State.liveHold, State.shedCap, State.urgent, State.reading]

end Sys2Proof.Machine
end

