-- ==== Sys2Proof/Laws/Ops.lean ====
section
/-! SUPPORT. What the shared operations of Ops.lean do: latches (R143, R148), the offers to the Transmit Queue
(R157), the arbiter (R158) and the end of an event. -/

namespace Sys2Proof.Machine

/-! ### Latches -/

/-- Marking a latch sets that latch and no other (R143). -/
@[simp] theorem markLatch_latched (l k : Latch) (s : State) :
    (markLatch l s).latched k = (s.latched k || decide (k = l)) := by
  simp only [State.latched, markLatch, State.setCondition_condition, BitVec.getLsbD_or]
  congr 1
  cases k <;> cases l <;> rfl

/-- An offered ALARM may set REPLY_LOST, clears no latch and sets no other (R157). -/
theorem offerAlarm_latched (k : Latch) (s : State) :
    (s.latched k = true → (offerAlarm s).latched k = true)
      ∧ (k ≠ .replyLost → (offerAlarm s).latched k = s.latched k) := by
  unfold offerAlarm displaceReport
  (repeat' split) <;> simp_all

/-- Setting a latch leaves it set (R143). -/
@[simp] theorem setLatch_latched_self (l : Latch) (s : State) : (setLatch l s).latched l = true := by
  have h := (offerAlarm_latched l (markLatch l s)).1 (by simp)
  unfold setLatch
  (repeat' split) <;> simp_all

/-- Setting a latch clears none and sets no other but REPLY_LOST (R143, R157). -/
theorem setLatch_latched (l k : Latch) (s : State) :
    (s.latched k = true → (setLatch l s).latched k = true)
      ∧ (k ≠ l → k ≠ .replyLost → (setLatch l s).latched k = s.latched k) := by
  have h := offerAlarm_latched k (markLatch l s)
  unfold setLatch
  (repeat' split) <;> simp_all

/-- A latch that is set already: setting it again changes nothing (R143). -/
theorem setLatch_of_latched {l : Latch} {s : State} (h : s.latched l = true) : setLatch l s = s := by
  simp [setLatch, h]

/-- A latch that is not urgent is marked and nothing else happens (R148). -/
theorem setLatch_of_not_urgent {l : Latch} {s : State} (h : s.latched l = false) (hu : s.urgent l = false) :
    setLatch l s = markLatch l s := by
  simp [setLatch, h, hu]

/-! ### The end of an event -/

/-- Nothing is left to do at the end of an event: no RESTART takes effect, and an entry is in flight or none
waits (R158, R167). -/
def Settled (s : State) : Prop :=
  s.command.restartDue = false ∧ (s.line.inFlight = none → s.line.waiting = [])

/-- The arbiter leaves a settled queue alone (R158). -/
theorem arbitrate_of_settled {s : State} (h : s.line.inFlight = none → s.line.waiting = []) :
    arbitrate s = s := by
  unfold arbitrate
  split
  · rfl
  · rename_i hn
    simp [h hn, nextEntry, takeFirst]

/-- The end of an event leaves a settled station alone. -/
theorem settle_of_settled {s : State} (h : Settled s) : settle s = s := by
  simp [settle, h.1, arbitrate_of_settled h.2]

/-- A station that is safe is settled. -/
theorem StationOk.settled {s : State} (h : StationOk s) : Settled s :=
  ⟨h.2.1.2.2.2.2.2.2.2.2.2, h.2.2.1.2.2.2.2.1⟩

/-! ### Taking an entry out of a list -/

/-- What takeFirst takes stood in the list, and so did what it leaves. -/
theorem takeFirst_mem {α : Type} {p : α → Bool} {l others : List α} {a : α}
    (h : takeFirst p l = some (a, others)) : a ∈ l ∧ p a = true ∧ ∀ b ∈ others, b ∈ l := by
  induction l generalizing a others with
  | nil => simp [takeFirst] at h
  | cons x rest ih =>
    simp only [takeFirst] at h
    split at h
    · simp_all
    · split at h
      · rename_i hb
        simp only [Option.some.injEq, Prod.mk.injEq] at h
        obtain ⟨rfl, rfl⟩ := h
        have := ih hb
        simp_all
      · simp at h

/-- What takeLast takes stood in the list. -/
theorem takeLast_mem {α : Type} {p : α → Bool} {l others : List α} {a : α}
    (h : takeLast p l = some (a, others)) : a ∈ l ∧ p a = true := by
  simp only [takeLast] at h
  split at h
  · rename_i hb
    simp only [Option.some.injEq, Prod.mk.injEq] at h
    obtain ⟨rfl, rfl⟩ := h
    have := takeFirst_mem hb
    simp_all
  · simp at h

/-- takeFirst finds nothing exactly where nothing satisfies p. -/
theorem takeFirst_eq_none {α : Type} {p : α → Bool} {l : List α} :
    takeFirst p l = none ↔ l.any p = false := by
  induction l with
  | nil => simp [takeFirst]
  | cons x rest ih =>
    simp only [takeFirst]
    split
    · simp_all
    · split <;> simp_all

/-- takeFirst finds the first element that satisfies p. -/
theorem takeFirst_of_split {α : Type} {p : α → Bool} {older younger : List α} {a : α} (ha : p a = true)
    (ho : older.any p = false) : takeFirst p (older ++ a :: younger) = some (a, older ++ younger) := by
  induction older with
  | nil => simp [takeFirst, ha]
  | cons x rest ih =>
    simp only [List.any_cons, Bool.or_eq_false_iff] at ho
    simp [takeFirst, ho.1, ih ho.2]

/-- takeLast finds the last element that satisfies p. -/
theorem takeLast_of_split {α : Type} {p : α → Bool} {older younger : List α} {a : α} (ha : p a = true)
    (hy : younger.any p = false) : takeLast p (older ++ a :: younger) = some (a, older ++ younger) := by
  have h : takeFirst p (younger.reverse ++ a :: older.reverse) = some (a, younger.reverse ++ older.reverse) :=
    takeFirst_of_split ha (by simpa using hy)
  simp [takeLast, h]

/-- A list either holds no element that satisfies p or splits at its last one. -/
theorem any_or_split {α : Type} (p : α → Bool) (l : List α) :
    l.any p = false ∨ ∃ older a younger, l = older ++ a :: younger ∧ p a = true ∧ younger.any p = false := by
  induction l with
  | nil => simp
  | cons x rest ih =>
    rcases ih with h | ⟨older, a, younger, rfl, ha, hy⟩
    · cases hx : p x
      · left
        simp [hx] at h ⊢
        exact h
      · exact .inr ⟨[], x, rest, rfl, hx, h⟩
    · exact .inr ⟨x :: older, a, younger, rfl, ha, hy⟩

/-- With at most one element of a kind, taking the first of the kind leaves the others in order. -/
theorem takeFirst_others {α : Type} {p : α → Bool} {l others : List α} {a : α}
    (h : takeFirst p l = some (a, others)) (hc : l.countP p ≤ 1) : others = l.filter (fun b => !p b) := by
  induction l generalizing a others with
  | nil => simp [takeFirst] at h
  | cons x rest ih =>
    simp only [takeFirst] at h
    split at h
    · rename_i hx
      simp only [Option.some.injEq, Prod.mk.injEq] at h
      obtain ⟨rfl, rfl⟩ := h
      simp only [List.countP_cons, hx, if_true] at hc
      have h0 : rest.countP p = 0 := by omega
      rw [List.countP_eq_zero] at h0
      simp only [List.filter_cons, hx, Bool.not_true, Bool.false_eq_true, if_false]
      exact (List.filter_eq_self.2 (fun b hb => by simpa using h0 b hb)).symm
    · rename_i hx
      split at h
      · rename_i hb
        simp only [Option.some.injEq, Prod.mk.injEq] at h
        obtain ⟨rfl, rfl⟩ := h
        have hx' : p x = false := by simpa using hx
        simp only [List.countP_cons, hx', Bool.false_eq_true, if_false, Nat.add_zero] at hc
        simp [hx', ih hb hc]
      · simp at h

/-! ### The setting of a latch at the end of an event -/

/-- The reset of a RESTART, taken in a state whose Station Control, inputs and queue of commands stand as in s. -/
theorem restarted_of_same {s u : State} (hc : u.control = s.control) (hm : u.measure = s.measure)
    (hp : u.pending = s.pending) : Restarted s (restartReset u) := by
  simp [Restarted, restartReset, resetBlocks, readRequest, State.setControl, hc, hm, hp]

/-- In RUNNING and HOLD, an urgent latch that goes from clear to set acts by what the Transmit Queue holds (R148). -/
theorem setLatch_of_urgent {l : Latch} {s : State} (hl : s.latched l = false) (hu : s.urgent l = true)
    (hs : s.speaking = true) :
    setLatch l s = if s.line.absorbsAlarm = true then markLatch l s
      else if s.line.holdsAlarm = true then setAlarmDue true (markLatch l s)
      else offerAlarm (markLatch l s) := by
  unfold setLatch
  simp only [hl, hu, Bool.false_eq_true, if_false, if_true]
  cases hm : s.control.mode <;> simp_all [State.speaking, Mode.speaking]

/-- An ALARM that waits unsent is an ALARM in the queue. -/
theorem holdsAlarm_of_absorbs {u : LineUnit} (h : u.absorbsAlarm = true) : u.holdsAlarm = true := by
  simp only [LineUnit.absorbsAlarm, LineUnit.holdsAlarm, List.any_eq_true, Bool.and_eq_true] at h ⊢
  obtain ⟨e, he, ha, -⟩ := h
  exact ⟨e, he, ha⟩

/-- A full queue has an entry in flight, so the arbiter leaves it alone. -/
theorem inFlight_of_full {s : State} (h : s.line.inFlight = none → s.line.waiting = [])
    (hf : 6 ≤ s.line.txCount) : ∃ e, s.line.inFlight = some e := by
  cases hi : s.line.inFlight with
  | some e => exact ⟨e, rfl⟩
  | none => simp [LineUnit.txCount, LineUnit.txEntries, hi, h hi] at hf

/-- An entry that joins stands last in the queue, whether or not the arbiter then chooses it (R157, R158). -/
theorem arbitrate_enqueue_txEntries {e : TxEntry} {s : State} (h : s.line.inFlight = none → s.line.waiting = []) :
    (arbitrate (enqueue e s)).line.txEntries = s.line.txEntries ++ [e] := by
  cases hi : s.line.inFlight with
  | some x => simp [arbitrate, enqueue, LineUnit.txEntries, hi]
  | none =>
    cases e <;> simp [arbitrate, enqueue, LineUnit.txEntries, hi, h hi, nextEntry, takeFirst, TxEntry.isAlarm,
      TxEntry.isReply, TxEntry.isReport, drawHoldoff]

/-- What an event that ends in the setting of a latch makes of a settled station (R143, R148, R157, R167). -/
theorem latchSet {l : Latch} {s : State} (hs : Settled s) (hc : s.line.waiting.countP TxEntry.isReport ≤ 1) :
    LatchSet l s (settle (setLatch l s)) := by
  have hid : ∀ t : State, t.line = s.line → t.command = s.command → settle t = t := fun t ht hc =>
    settle_of_settled ⟨by rw [hc]; exact hs.1, by rw [ht]; exact hs.2⟩
  cases hl : s.latched l with
  | true =>
    refine ⟨fun h => by simp [DisplacesRestart, hl] at h, fun _ => ?_⟩
    rw [setLatch_of_latched hl, hid s rfl rfl]
    simp [AfterLatch, LatchesOnly, Unchanged, LineQuiet, ReportsQuiet, hl]
  | false =>
  cases hu : s.urgent l with
  | false =>
    refine ⟨fun h => by simp [DisplacesRestart, hu] at h, fun _ => ?_⟩
    rw [setLatch_of_not_urgent hl hu, hid _ (by simp) (by simp)]
    simp +contextual [AfterLatch, LatchesOnly, Unchanged, LineQuiet, ReportsQuiet, hl, hu]
  | true =>
  cases hp : s.speaking with
  | false =>
    refine ⟨fun h => by simp [DisplacesRestart, hp] at h, fun _ => ?_⟩
    by_cases hm : s.control.mode = .joining
    · have h : setLatch l s = setAlarmDue true (markLatch l s) := by simp [setLatch, hl, hu, hm]
      rw [h, hid _ (by simp) (by simp)]
      simp +contextual [AfterLatch, LatchesOnly, Unchanged, LineQuiet, ReportsQuiet, hl, hu, hp]
      simp [setAlarmDue]
    · have h : setLatch l s = markLatch l s := by
        unfold setLatch
        simp only [hl, hu, Bool.false_eq_true, if_false, if_true]
        cases hm' : s.control.mode <;> simp_all [State.speaking, Mode.speaking]
      rw [h, hid _ (by simp) (by simp)]
      simp +contextual [AfterLatch, LatchesOnly, Unchanged, LineQuiet, ReportsQuiet, hl, hu, hp, hm]
  | true =>
  have hj : s.control.mode ≠ .joining := by
    intro hm
    simp [State.speaking, Mode.speaking, hm] at hp
  have hset := setLatch_of_urgent hl hu hp
  cases ha : s.line.absorbsAlarm with
  | true =>
    have hh := holdsAlarm_of_absorbs ha
    refine ⟨fun h => by simp [DisplacesRestart, hh] at h, fun _ => ?_⟩
    rw [hset]
    simp only [ha, if_true]
    rw [hid _ (by simp) (by simp)]
    simp +contextual [AfterLatch, AlarmCalled, LatchesOnly, Unchanged, LineQuiet, ReportsQuiet, hl, hu, hp, hj, ha, hh]
  | false =>
  cases hh : s.line.holdsAlarm with
  | true =>
    refine ⟨fun h => by simp [DisplacesRestart, hh] at h, fun _ => ?_⟩
    rw [hset]
    simp only [ha, hh, if_true, Bool.false_eq_true, if_false]
    rw [hid _ (by simp) (by simp)]
    simp +contextual [AfterLatch, AlarmCalled, LatchesOnly, Unchanged, LineQuiet, ReportsQuiet, hl, hu, hp, hj, ha, hh]
    simp [setAlarmDue]
  | false =>
  have hset' : setLatch l s = offerAlarm (markLatch l s) := by
    rw [hset]
    simp [ha, hh]
  by_cases hroom : s.line.txCount < 6
  · refine ⟨fun h => by have := h.2.2.2.2.1; omega, fun _ => ?_⟩
    have ho : setLatch l s = enqueue (.alarm none) (markLatch l s) := by
      rw [hset', offerAlarm]
      simp [Config.txCapacity, hroom]
    have hst : settle (setLatch l s) = arbitrate (setLatch l s) := by
      simp [settle, ho, hs.1]
    rw [hst, ho]
    have htx : (arbitrate (enqueue (.alarm none) (markLatch l s))).line.txEntries
        = s.line.txEntries ++ [.alarm none] := by
      rw [arbitrate_enqueue_txEntries (by simpa using hs.2)]
      simp
    have hfull : ¬ 6 ≤ s.line.txCount := by omega
    simp +contextual [AfterLatch, AlarmCalled, LatchesOnly, Unchanged, LineQuiet, ReportsQuiet, hl, hu, hp, hj, ha, hh,
      htx, hroom, hfull]
  · have hfull : 6 ≤ s.line.txCount := by omega
    obtain ⟨x, hin⟩ := inFlight_of_full hs.2 hfull
    have harb : ∀ t : State, t.line.inFlight = s.line.inFlight → arbitrate t = t := by
      intro t ht
      simp [arbitrate, ht, hin]
    cases ht : takeFirst TxEntry.isReport s.line.waiting with
    | some q =>
      obtain ⟨q, others⟩ := q
      have hany : s.line.waiting.any TxEntry.isReport = true := by
        have := takeFirst_mem ht
        simp only [List.any_eq_true]
        exact ⟨q, this.1, this.2.1⟩
      refine ⟨fun h => by simp [DisplacesRestart, hany] at h, fun _ => ?_⟩
      have ho : setLatch l s = displaceReport others (.alarm none) (markLatch l s) := by
        rw [hset', offerAlarm]
        simp [Config.txCapacity, hroom, ht]
      have hst : settle (setLatch l s) = setLatch l s := by
        have : settle (setLatch l s) = arbitrate (setLatch l s) := by simp [settle, ho, hs.1]
        rw [this, harb _ (by simp [ho])]
      rw [hst, ho]
      simp +contextual [AfterLatch, AlarmCalled, LatchesOnly, Unchanged, LineQuiet, ReportsQuiet, hl, hu, hp, hj, ha, hh,
        hroom, hany, displaceReport, setReportDue, takeFirst_others ht hc]
    | none =>
      have hany : s.line.waiting.any TxEntry.isReport = false := takeFirst_eq_none.1 ht
      rcases any_or_split TxEntry.isReply s.line.waiting with hnone | ⟨older, e, younger, hw, he, hy⟩
      · exfalso
        have hempty : s.line.waiting = [] := by
          rw [List.eq_nil_iff_forall_not_mem]
          intro e he
          simp only [LineUnit.holdsAlarm, LineUnit.txEntries, List.any_append, Bool.or_eq_false_iff,
            List.any_eq_false] at hh hany hnone
          have h1 := hh.2 e he
          have h2 := hany e he
          have h3 := hnone e he
          cases e <;> simp_all [TxEntry.isReply, TxEntry.isReport, TxEntry.isAlarm]
        simp [LineUnit.txCount, LineUnit.txEntries, hempty, hin] at hfull
      · obtain ⟨r, rfl⟩ : ∃ r, e = .reply r := by
          cases e <;> simp_all [TxEntry.isReply]
        have htl : takeLast TxEntry.isReply s.line.waiting = some (.reply r, older ++ younger) := by
          rw [hw]
          exact takeLast_of_split he hy
        have ho : setLatch l s = noteDeparture (.reply r) (markLatch .replyLost (countReplyLost
            ((markLatch l s).setLine { s.line with waiting := older ++ younger ++ [.alarm none] }))) := by
          rw [hset', offerAlarm]
          simp [Config.txCapacity, hroom, ht, htl]
        have huniq : ∀ o r' y, s.line.waiting = o ++ .reply r' :: y → y.any TxEntry.isReply = false →
            r' = r ∧ o ++ y = older ++ younger := by
          intro o r' y hw' hy'
          have h' : takeLast TxEntry.isReply s.line.waiting = some (.reply r', o ++ y) := by
            rw [hw']
            exact takeLast_of_split rfl hy'
          rw [htl] at h'
          simp only [Option.some.injEq, Prod.mk.injEq, TxEntry.reply.injEq] at h'
          exact ⟨h'.1.symm, h'.2.symm⟩
        cases hr : r.restart with
        | true =>
          have hd : DisplacesRestart l s :=
            ⟨hl, hu, hp, hh, hfull, hany, older, r, younger, hw, hy, hr⟩
          refine ⟨fun _ => ?_, fun h => absurd hd h⟩
          have hst : settle (setLatch l s) = restartReset (setLatch l s) := by
            simp [settle, ho, noteDeparture, TxEntry.marked, hr]
          rw [hst]
          exact restarted_of_same (by simp [ho]) (by simp [ho]) (by simp [ho])
        | false =>
          have hnd : ¬ DisplacesRestart l s := by
            rintro ⟨-, -, -, -, -, -, o, r', y, hw', hy', hr'⟩
            rw [(huniq o r' y hw' hy').1, hr] at hr'
            exact absurd hr' (by decide)
          refine ⟨fun h => absurd h hnd, fun _ => ?_⟩
          have hst : settle (setLatch l s) = setLatch l s := by
            have : settle (setLatch l s) = arbitrate (setLatch l s) := by
              simp [settle, ho, hs.1, noteDeparture, TxEntry.marked, hr]
            rw [this, harb _ (by simp [ho])]
          have hcmd : (setLatch l s).command = s.command := by
            simp [ho, noteDeparture, TxEntry.marked, hr]
          have hcalled : AlarmCalled l s (setLatch l s) := by
            refine ⟨by simp [ha], by simp [hh], fun _ => ⟨by simp [ho], by simp [hroom], by simp [hany], ?_⟩⟩
            intro _ _ o r' y hw' hy'
            rw [(huniq o r' y hw' hy').2]
            simp [ho, countReplyLost, countUp, Config.counterMax]
          rw [hst]
          refine ⟨by simp, by simp [hl], by simp [hu], by simp [hj], fun _ _ _ => hcalled, ?_, ?_, ?_, ?_⟩
          · simp [Unchanged, hcmd]
          · simp [LineQuiet]
          · simp [ReportsQuiet]
          · simp +contextual [LatchesOnly, setLatch_latched]


/-- The departure of an entry that is no reply of a RESTART changes nothing at the Command Handler (R167). -/
theorem noteDeparture_of_unmarked {e : TxEntry} {s : State} (h : e.marked = false) : noteDeparture e s = s := by
  simp [noteDeparture, h, State.setCommand]

/-- What an event that ends in the offer of a reply makes of a settled station, where it drops no reply of a RESTART (R157,
R165, R167). -/
theorem answered {f : Frame} {r : Reply} {s : State} (hs : Settled s)
    (hc : s.line.waiting.countP TxEntry.isReport ≤ 1) (hr : DropsReply f s → r.restart = false) :
    Answered f r s (settle (if f.destination = 255#8 then s else offerReply r s)) := by
  by_cases hd : f.destination = 255#8
  · simp only [hd, if_true, settle_of_settled hs]
    simp [Answered, hd, DropsReply]
  simp only [hd, if_false]
  by_cases hroom : s.line.txCount < 6
  · have ho : offerReply r s = enqueue (.reply r) s := by
      simp [offerReply, Config.txCapacity, hroom]
    have hst : settle (offerReply r s) = arbitrate (enqueue (.reply r) s) := by simp [settle, ho, hs.1]
    rw [hst]
    have htx := arbitrate_enqueue_txEntries (e := .reply r) hs.2
    have hfull : ¬ 6 ≤ s.line.txCount := by omega
    simp [Answered, Unchanged, LineQuiet, ReportsQuiet, hd, hroom, hfull, htx, DropsReply]
  · have hfull : 6 ≤ s.line.txCount := by omega
    obtain ⟨x, hin⟩ := inFlight_of_full hs.2 hfull
    cases ht : takeFirst TxEntry.isReport s.line.waiting with
    | some q =>
      obtain ⟨q, others⟩ := q
      have hany : s.line.waiting.any TxEntry.isReport = true := by
        have := takeFirst_mem ht
        simp only [List.any_eq_true]
        exact ⟨q, this.1, this.2.1⟩
      have ho : offerReply r s = displaceReport others (.reply r) s := by
        simp [offerReply, Config.txCapacity, hroom, ht]
      have hst : settle (offerReply r s) = offerReply r s := by
        simp [settle, ho, hs.1, arbitrate, hin]
      rw [hst, ho]
      simp [Answered, Unchanged, LineQuiet, ReportsQuiet, hd, hroom, hfull, hany, DropsReply, displaceReport,
        setReportDue, takeFirst_others ht hc]
    | none =>
      have hany : s.line.waiting.any TxEntry.isReport = false := takeFirst_eq_none.1 ht
      have hdrop : DropsReply f s := ⟨hd, hfull, hany⟩
      have hq : noteDeparture (.reply r) (setLatch .replyLost (countReplyLost s))
          = setLatch .replyLost s.oneReplyLost := by
        have hu : noteDeparture (.reply r) (setLatch .replyLost (countReplyLost s))
            = setLatch .replyLost (countReplyLost s) := by
          exact noteDeparture_of_unmarked (by simpa [TxEntry.marked] using hr hdrop)
        rw [hu]
        rfl
      have ho : offerReply r s = setLatch .replyLost s.oneReplyLost := by
        simp [offerReply, Config.txCapacity, hroom, ht, hq]
      rw [ho]
      refine ⟨fun h => absurd h hd, ?_, fun _ h => absurd h hroom, ?_, fun _ => latchSet ⟨hs.1, hs.2⟩ hc⟩
      · rintro - (h | h)
        · exact absurd h hroom
        · simp [hany] at h
      · intro _ _ h
        simp [hany] at h

end Sys2Proof.Machine
end

