-- ==== Sys2Proof/Tests/Slice0.lean ====
section
/-! SUPPORT. Tests: the smoke tests of WellFormed, the spec's own worked examples, small tests of the events, and for
every statement with hypotheses a state and operands that meet them. Expected values come from the spec's worked
examples and tables, named at each test. -/

namespace Sys2Proof.Tests

set_option Elab.async false

open Sys2Proof Sys2Proof.Machine

/-! ### Deciding whether a concrete station is safe -/

/-- Whether a role part lies in its ranges is decidable. -/
@[reducible] def decPart : (p : RolePart) → Decidable (PartOk p)
  | .transfer _ => by dsimp only [PartOk]; infer_instance
  | .plant _ => by dsimp only [PartOk]; infer_instance

@[reducible] def decGroups : (l : List Group) → Decidable (GroupsOk l)
  | [] => .isTrue trivial
  | [_] => .isTrue trivial
  | _ :: _ :: _ => by dsimp only [GroupsOk]; infer_instance

@[reducible] def decReceiver (l : LineState) : (r : Receiver) → Decidable (ReceiverOk l r)
  | .skipping => .isTrue trivial
  | .testing => .isTrue trivial
  | .gathering groups =>
    letI := decGroups groups
    (by dsimp only [ReceiverOk]; infer_instance)

@[reducible] def decActive : (a : ActiveBlock) → Decidable (ActiveOk a)
  | .none => .isTrue trivial
  | .running _ _ => by dsimp only [ActiveOk, BlockOk]; infer_instance
  | .held _ => by dsimp only [ActiveOk, BlockOk]; infer_instance

@[reducible] def decShed (c : Nat) : (x : ShedState) → Decidable (ShedOk c x)
  | .off => .isTrue trivial
  | .inForce _ _ => by dsimp only [ShedOk]; infer_instance

@[reducible] def decEntry (d : Descriptor) (e : PeerEntry) : Decidable (EntryOk d e) :=
  letI := decPart e.part
  (by dsimp only [EntryOk]; infer_instance)

@[reducible] def decConfig (s : State) : Decidable (ConfigOk s) := by
  dsimp only [ConfigOk, DescriptorOk, BandOk, InRange, SectorOk]; infer_instance

@[reducible] def decMode (s : State) : Decidable (ModeOk s) := by dsimp only [ModeOk]; infer_instance

@[reducible] def decQueues (s : State) : Decidable (QueuesOk s) := by dsimp only [QueuesOk]; infer_instance

@[reducible] def decAttempt (s : State) : Decidable (AttemptOk s) :=
  letI := decReceiver s.line.lineState s.line.receiver
  (by dsimp only [AttemptOk]; infer_instance)

@[reducible] def decTable (s : State) : Decidable (TableOk s) :=
  letI := decEntry s.config
  (by dsimp only [TableOk]; infer_instance)

@[reducible] def decLimit (s : State) : Decidable (LimitOk s) :=
  letI := decActive s.limit.active
  letI := decShed s.config.ownClass s.limit.shed
  (by dsimp only [LimitOk, BlockOk]; infer_instance)

/-- A statement about every field is one about each of the seven. -/
@[reducible] def decEachField {p : FieldName → Prop} (h : ∀ n, Decidable (p n)) : Decidable (∀ n, p n) :=
  letI := h
  decidable_of_iff (p .ts ∧ p .tr ∧ p .q ∧ p .dp ∧ p .vf ∧ p .qb ∧ p .qavail)
    ⟨fun ⟨a, b, c, d, e, f, g⟩ n => by cases n <;> assumption,
      fun x => ⟨x _, x _, x _, x _, x _, x _, x _⟩⟩

/-- A statement about every input is one about each of the four. -/
@[reducible] def decEachInput {p : InputName → Prop} (h : ∀ n, Decidable (p n)) : Decidable (∀ n, p n) :=
  letI := h
  decidable_of_iff (p .in0 ∧ p .in1 ∧ p .in2 ∧ p .in3)
    ⟨fun ⟨a, b, c, d⟩ n => by cases n <;> assumption, fun x => ⟨x _, x _, x _, x _⟩⟩

@[reducible] def decMeasure (s : State) : Decidable (MeasureOk s) :=
  letI a : Decidable (∀ n, FieldOk n (s.measure.fields.get n)) :=
    decEachField (fun n => by dsimp only [FieldOk]; infer_instance)
  letI b : Decidable (∀ n, n ∉ fieldSet s.config.role → s.measure.fields.get n = .atReset) :=
    decEachField (fun n => inferInstance)
  letI c : Decidable (∀ i, InputOk s.config i (s.measure.inputs.get i)
      ∧ functionFits s.config.role (s.measure.functions.get i) = true) :=
    decEachInput (fun i => by dsimp only [InputOk]; infer_instance)
  (by dsimp only [MeasureOk]; infer_instance)

@[reducible] def decShare (s : State) : Decidable (ShareOk s) := by dsimp only [ShareOk]; infer_instance

@[reducible] def decValve (s : State) : Decidable (ValveOk s) := by
  dsimp only [ValveOk, ValveActive]; infer_instance

@[reducible] def decHead (s : State) : Decidable (HeadOk s) := by
  dsimp only [HeadOk, HeadActive]; infer_instance

@[reducible] def decCounters (s : State) : Decidable (CountersOk s) := by dsimp only [CountersOk]; infer_instance

@[reducible] def decReports (s : State) : Decidable (ReportsOk s) := by dsimp only [ReportsOk]; infer_instance

/-- Whether a station is safe is decidable. -/
@[reducible] def decStation (s : State) : Decidable (StationOk s) :=
  letI := decConfig s
  letI := decMode s
  letI := decQueues s
  letI := decAttempt s
  letI := decTable s
  letI := decLimit s
  letI := decMeasure s
  letI := decShare s
  letI := decValve s
  letI := decHead s
  letI := decCounters s
  letI := decReports s
  (by dsimp only [StationOk]; infer_instance)

/-- Whether the station is safe, evaluated. -/
def isOk (s : State) : Bool := @decide (StationOk s) (decStation s)

/-- A station that evaluates as safe is safe. -/
theorem stationOk {s : State} (h : isOk s = true) : StationOk s := @of_decide_eq_true _ (decStation s) h

/-! ### Small stations -/

/-- A transfer station's configuration, with the tunables of the worked examples of spec/03 and spec/05. -/
def exD : Descriptor :=
  { Descriptor.blank with
    number := 17, ownClass := 1, lockEnable := true, staleTime := 10, joinTime := 5, lostTime := 30
    silenceTime := 20, reportInterval := 5, minSpacing := 10, controlPeriod := 10, sampleTimeout := 30
    holdTime := 15, debounce := 2, filterA := 4
    sectors := [⟨1, 199, true⟩, ⟨239, 1, false⟩, ⟨239, 1, false⟩, ⟨239, 1, false⟩]
    dTmin := 500, dThys := 100, lFloor := 800, lTight := 50, lRelax := 20, kv := 64, rMax := 200
    vWide := 9000, failPosition := 1500, softLo := 1500, softHi := 9000, gFloor := 400, gFallback := 600
    qDef := 900, dpReq := 1200, reportDelta := 100, starveMargin := 50, starveCount := 3
    hMin := 1200, hMax := 3600, hStart := 2500, hIsolated := 3000, hStep := 40, kh := 16, reserve := 250
    permissions := [7#8, 7#8, 7#8, 7#8, 7#8, 7#8, 7#8, 7#8, 0#8, 0#8], barred := [0#8, 0#8, 0#8, 0#8]
    alarmMask := 0x000020#24, urgentMask := 0x000400#24, changeMask := 0x01#8
    functionCodes := ⟨0#8, 2#8, 1#8, 4#8⟩, activeLevels := 0x0F#8 }

/-- A plant station's configuration. -/
def exDP : Descriptor :=
  { exD with
    number := 5, role := .plant, failPosition := 0, functionCodes := ⟨3#8, 0#8, 0#8, 0#8⟩ }

/-- What the memory lane carries until the descriptor read ends: select, the instruction 03H, the address 0 (R169). -/
def exRequest : List MemorySignal := [.select, .send 0x03#8, .send 0x00#8, .send 0x00#8]

/-- What it has carried once the 106 characters are read (R169). -/
def exRead : List MemorySignal := exRequest ++ [.read 106, .release]

/-- The transfer station of the examples in a mode after STARTING, with one peer or more. -/
def exIn (mode : Mode) : State :=
  { State.reset with
    control :=
      { StationControl.atReset with
        mode := mode
        pinAsserted := false
        joinTimer := if mode = .joining then .running 50 else .stopped
        holdTimer := if mode = .hold then .running 600 else .stopped
        strapReading := ⟨5, .top⟩
        memoryLane := exRead
        descriptor := some exD
        driveBand := some ⟨1500, 7500⟩ }
    line := { LineUnit.atReset with silenceTimer := .running 200 }
    valve := { ValveLoop.atReset with command := 1500, periodTimer := .running 10 }
    measure :=
      { MeasurementUnit.atReset ⟨.low, .low, .low, .low⟩ with
        sampleTimer := .running 30
        functions := ⟨.none, .isolationClosed, .localHand, .maintLock⟩ } }

/-- A transfer station in RUNNING. -/
def exT : State := exIn .running

/-- A plant station in a mode after STARTING. -/
def exPlantIn (mode : Mode) : State :=
  { exIn mode with
    control :=
      { (exIn mode).control with
        strapReading := ⟨3, .bottom⟩
        descriptor := some exDP
        driveBand := some ⟨1350, 3600⟩ }
    valve := .atReset
    head := { HeadResetUnit.atReset with setpoint := 2500, periodTimer := .running 10 }
    measure :=
      { MeasurementUnit.atReset ⟨.low, .low, .low, .low⟩ with
        sampleTimer := .running 30
        functions := ⟨.plantTrip, .none, .none, .none⟩ } }

/-- A plant station in RUNNING. -/
def exP : State := exPlantIn .running

/-- A station in STARTING with the descriptor read in progress. -/
def exS : State :=
  { State.reset with
    control :=
      { StationControl.atReset with
        pinAsserted := false
        restartCause := true
        strapReading := ⟨5, .top⟩
        memoryLane := exRequest } }

/-- A station in UNCONFIGURED. -/
def exU : State :=
  { exS with
    control :=
      { exS.control with
        mode := .unconfigured
        restartCause := false
        memoryLane := exRead
        safeTimer := .running 10 } }

theorem exT_ok : StationOk exT := stationOk (by decide +kernel)
theorem exJ_ok : StationOk (exIn .joining) := stationOk (by decide +kernel)
theorem exH_ok : StationOk (exIn .hold) := stationOk (by decide +kernel)
theorem exP_ok : StationOk exP := stationOk (by decide +kernel)
theorem exPJ_ok : StationOk (exPlantIn .joining) := stationOk (by decide +kernel)
theorem exPH_ok : StationOk (exPlantIn .hold) := stationOk (by decide +kernel)
theorem exS_ok : StationOk exS := stationOk (by decide +kernel)
theorem exU_ok : StationOk exU := stationOk (by decide +kernel)
theorem reset_ok : StationOk State.reset := stationOk (by decide +kernel)


/-! ### Ill-formed commands are refused by WellFormed -/

/-- The descriptor read is 106 characters long (R169). -/
theorem test_wf_descriptor_length :
    (Instr.descriptorReadComplete (List.replicate 105 0#8)).wellFormed = false
      ∧ (Instr.descriptorReadComplete (List.replicate 106 0#8)).wellFormed = true := by decide

/-- Only the numbers 1 to 239 have an entry, and so an age timer (R5, R6). -/
theorem test_wf_age_number :
    (Instr.ageTimerExpiry 0).wellFormed = false ∧ (Instr.ageTimerExpiry 240).wellFormed = false
      ∧ (Instr.ageTimerExpiry 1).wellFormed = true ∧ (Instr.ageTimerExpiry 239).wellFormed = true := by decide

/-- A transfer record cut short by a character is not a whole record (R124, R181). -/
theorem test_wf_sample_record :
    (Instr.sampleRecord (0x55#8 :: 1#8 :: List.replicate 17 0#8)).wellFormed = false
      ∧ (Instr.sampleRecord (0x55#8 :: 1#8 :: List.replicate 18 0#8)).wellFormed = true
      ∧ (Instr.sampleRecord (0x54#8 :: 1#8 :: List.replicate 18 0#8)).wellFormed = false := by decide

/-- No row of the table carries bits, so no word spells a command. -/
theorem test_no_word_spells_a_command : decodeTableWord 0 0 = none ∧ decodeTableWord 32 0xFFFFFFFF = none := by
  decide

/-! ### Worked examples of the spec -/

/-- A transfer entry. -/
def exTransfer (number cls qr : Nat) (membership : Membership) (freshness : Freshness) (age : Nat)
    (margin : Option Int) (starved : Bool) : PeerEntry where
  number := number
  membership := membership
  freshness := freshness
  age := age
  ageTimer := .running 10
  lastSequence := 250#8
  acceptedCount := 1
  peerMode := .running
  isolated := false
  word := 0#22
  part := .transfer ⟨qr, cls, 0, 0, margin, false, starved, false, false, .full⟩

/-- A plant entry. -/
def exPlant (number offer : Nat) (membership : Membership) (freshness : Freshness) (age : Nat) : PeerEntry :=
  { exTransfer number 0 0 membership freshness age none false with part := .plant ⟨offer, 0, none, none, none⟩ }

/-- The Peer Table of spec/03 "Four Classes, Two Plants", with a given offer of station 3. -/
def exTable (offer3 : Nat) : List PeerEntry :=
  [ exPlant 3 offer3 .inSector .fresh 0, exPlant 5 1800 .inSector .stale 12,
    exTransfer 9 0 800 .inSector .fresh 0 (some 210) false,
    exTransfer 21 1 1200 .inSector .fresh 0 (some 120) false,
    exTransfer 24 1 1000 .inSector .stale 12 (some (-300)) false,
    exTransfer 30 2 900 .inSector .fresh 0 (some 120) false,
    exTransfer 44 0 2000 .inSector .lost 40 none false, exPlant 210 5000 .outside .fresh 0 ]

/-- The inputs of station 17's computations there. -/
def exInputs (entries : List PeerEntry) : ShareInputs := ⟨1500, 1, false, 400, 600, entries⟩

/-- spec/03 "Four Classes, Two Plants": the whole Allocation Record. -/
theorem test_share_four_classes :
    computeShare (exInputs (exTable 3000)) =
      ⟨1500, 3900, 1, 1, 4, some 800, some 3700, some 900, some 0, some 3100, some 1256, false, 1256,
        .prorated⟩ := by decide

/-- spec/03 "Plants Fall Away": station 5 lost, then offers 1200 and 0 of station 3, then no plant at all. -/
theorem test_share_plants_fall_away :
    (computeShare (exInputs ((exTable 3000).filter (fun e => e.number ≠ 5)))).grant = 891
      ∧ (computeShare (exInputs ((exTable 1200).filter (fun e => e.number ≠ 5)))).grant = 400
      ∧ (computeShare (exInputs ((exTable 0).filter (fun e => e.number ≠ 5)))).outcome = .cut
      ∧ (computeShare (exInputs ((exTable 0).filter (fun e => 9 ≤ e.number)))).outcome = .noOffer
      ∧ (computeShare (exInputs ((exTable 0).filter (fun e => 9 ≤ e.number)))).grant = 600 := by decide

/-- spec/05 "The Limiter": expiries 1, 2, 3, 5 and 6, and the fifth expiry of a run of low dT. -/
theorem test_limiter :
    limiterAfter exD 1000 (some 450) = 950 ∧ limiterAfter exD 950 (some 520) = 950
      ∧ limiterAfter exD 950 (some 640) = 970 ∧ limiterAfter exD 970 (some 600) = 990
      ∧ limiterAfter exD 990 (some 610) = 1000 ∧ limiterAfter exD 800 (some 450) = 800
      ∧ buildingRequest false (some 1500) 900 950 = 1425 := by decide

/-- spec/05 "Steps of the Valve", all six rows. -/
theorem test_valve_steps :
    (let v (before qt q : Nat) :=
      valveCommand exD ⟨1500, 7500⟩ .running (some q) none false false before qt
     [v 6000 1200 1100, v 6025 1200 1237, v 6016 1200 1203, v 6016 2500 500, v 7400 2500 500, v 1600 0 900])
      = [6025, 6016, 6016, 6216, 7500, 1500] := by decide

/-- spec/06 "Following the Critical Station": expiries 1 to 5 and the two clamped variants. -/
theorem test_head_steps :
    (let p (mc : Int) (h : Nat) := headAfter exDP ⟨1350, 3600⟩ .proportional (some mc) h
     let raise (h : Nat) := headAfter exDP ⟨1350, 3600⟩ .starved (some (-20)) h
     [p 120 2500, p (-45) 2470, p 400 2481, raise 2441, p (-20) 2481, p 400 1370, raise 3590])
      = [2470, 2481, 2441, 2481, 2486, 1350, 3600] := by decide

/-- spec/06 "Following the Critical Station": of equal margins the lowest number; three eligible peers. -/
theorem test_critical_station :
    leastMargin (exTable 3000) = some (21, 120) ∧ eligibleCount (exTable 3000) = 3 := by decide

/-- spec/06 "A Plant Loses the Bus": the walk toward H_isolated and its last step. -/
theorem test_head_isolated_walk :
    headAfter exDP ⟨1350, 3600⟩ .isolated none 2486 = 2526
      ∧ headAfter exDP ⟨1350, 3600⟩ .isolated none 2966 = 3000
      ∧ headAfter exDP ⟨1350, 3600⟩ .isolated none 3000 = 3000 := by decide

/-- spec/06 "The Offer". -/
theorem test_offer :
    offerOf false (some 4000) 250 = (3000, some 4000) ∧ offerOf false (some 4121) 250 = (3090, some 4121)
      ∧ offerOf false none 250 = (0, none) ∧ offerOf true (some 3800) 250 = (0, none) := by decide

/-- spec/07 "The Filter Settles", records 1 to 7. -/
theorem test_filter :
    [filterStep 4 1200 1320, filterStep 4 1230 1320, filterStep 4 1252 1320, filterStep 4 1269 1320,
      filterStep 4 1281 1100, filterStep 4 1236 1240, filterStep 4 1237 1240]
      = [1230, 1252, 1269, 1281, 1236, 1237, 1237] := by decide

/-- spec/11 "Drive Bands", all five rows: the effective band, whether it calls for DESCRIPTOR_CLAMPED, and the clamped
value. -/
theorem test_drive_bands :
    (let u (d : Descriptor) (code : Nat) (e : BandEnd) :=
      let b := effectiveBand d (hardwareBand ⟨code, e⟩ (driveRange d))
      let c := clampIntoBand d b.1
      (b, if d.role = .transfer then c.failPosition else c.hStart)
     let t (lo hi fail code : Nat) (e : BandEnd) :=
      u { exD with softLo := lo, softHi := hi, failPosition := fail } code e
     [t 1500 9000 8000 5 .top, t 9000 500 0 1 .bottom, t 9700 9900 9800 2 .top, t 1500 9000 5000 7 .top,
      u { exDP with hStart := 1300 } 3 .bottom])
      = [((⟨1500, 7500⟩, false), 7500), ((⟨156, 10000⟩, false), 156), ((⟨0, 9688⟩, true), 9688),
         ((⟨0, 0⟩, true), 0), ((⟨1350, 3600⟩, false), 1350)] := by decide

/-- R175 by hand: d0 stands at position 3, so c0, c1 and c6 are one; d31 at position 38, so c1, c2 and c5 are. -/
theorem test_check_character :
    checkCharacter 0#32 = 0x00#8 ∧ checkCharacter 1#32 = 0x43#8 ∧ checkCharacter 0x80000000#32 = 0x26#8 := by
  decide

/-- R175's table: a data bit and a check bit put right, a double error and an eighth bit of 1 found. -/
theorem test_decode_group :
    decodeGroup ⟨0#8, 0#8, 0#8, 0#8, 0x43#8, false⟩ = .corrected 1#32
      ∧ decodeGroup ⟨0#8, 0#8, 0#8, 1#8, 0x42#8, false⟩ = .corrected 1#32
      ∧ decodeGroup ⟨0#8, 0#8, 0#8, 3#8, 0x42#8, false⟩ = .damaged
      ∧ decodeGroup ⟨0#8, 0#8, 0#8, 0#8, 0x80#8, false⟩ = .damaged := by decide

/-- R181: FAILSAFE in bit 0, HOLD in bit 1, LOCAL in bit 2, SAFE in bit 3 of the flags; the value high byte first. -/
theorem test_drive_record :
    driveRecord true false true false (u16 7500) = [0x5A#8, 0x05#8, 0x1D#8, 0x4C#8]
      ∧ driveRecord false true false false (u16 1) = [0x5A#8, 0x02#8, 0x00#8, 0x01#8]
      ∧ safeRecord false = [0x5A#8, 0x08#8, 0xFF#8, 0xFF#8]
      ∧ safeRecord true = [0x5A#8, 0x09#8, 0xFF#8, 0xFF#8] := by decide

/-- A descriptor written out by the offsets of R182, of station 17 with the tunables of exD. -/
def exBytes : List Byte :=
  [0x6B#8, 0x47#8, 0x24#8, 0x0D#8, 1#8, 17#8, 1#8, 1#8, 0#8, 1#8, 10#8, 5#8, 0#8, 30#8,
   20#8, 5#8, 10#8, 10#8, 30#8, 15#8, 2#8, 4#8, 1#8, 199#8, 239#8, 1#8, 239#8, 1#8, 239#8, 1#8]
  ++ [0x01#8, 0xF4#8, 0x00#8, 0x64#8, 0x03#8, 0x20#8, 0x00#8, 0x32#8, 0x00#8, 0x14#8, 0x00#8, 0x40#8,
      0x00#8, 0xC8#8, 0x23#8, 0x28#8, 0x05#8, 0xDC#8, 0x05#8, 0xDC#8, 0x23#8, 0x28#8, 0x01#8, 0x90#8,
      0x02#8, 0x58#8, 0x03#8, 0x84#8, 0x04#8, 0xB0#8, 0x00#8, 0x64#8, 0x00#8, 0x32#8, 0x00#8, 0x03#8]
  ++ [0x04#8, 0xB0#8, 0x0E#8, 0x10#8, 0x09#8, 0xC4#8, 0x0B#8, 0xB8#8, 0x00#8, 0x28#8, 0x00#8, 0x10#8,
      0x00#8, 0xFA#8, 7#8, 7#8, 7#8, 7#8, 7#8, 7#8, 7#8, 7#8, 0#8, 0#8, 0#8, 0#8, 0#8, 0#8]
  ++ [0x00#8, 0x00#8, 0x20#8, 0x00#8, 0x04#8, 0x00#8, 0x01#8, 0#8, 2#8, 1#8, 4#8, 0x0F#8]

/-- R182: the written descriptor is read as exD and needs no clamping (R171). -/
theorem test_descriptor_read :
    exBytes.length = 106 ∧ judgeDescriptor exBytes = some exD ∧ clampDescriptor exD = exD := by decide +kernel

/-- A frame of a station or tool to this one, whose groups it announces. -/
def exFrame (kind source destination : Byte) (body : List Group) : Frame :=
  ⟨destination, source, kind, 3#8, BitVec.ofNat 8 body.length, 0#8, 1#8, 1#8, body⟩

/-- A transfer station's report of R178: Qr 1200, G 1100, V 3000, Q absent, M +120, dT absent, L 1000, class 1, outcome
CUT, WIDE and ISOLATED set. -/
def exReport (source sequence flags : Byte) : Frame :=
  { exFrame 1#8 source 255#8
      [0x04B0044C#32, 0x0BB8FFFF#32, 0x00788000#32, 0x03E80102#32, 0x11000001#32] with
    sequence := sequence
    flags := flags }

/-- What exReport says (R178). -/
def exBody : ReportBody :=
  ⟨.running, true, 1#22, .transfer ⟨1200, 1, 1100, 3000, some 120, true, false, false, false, .cut⟩⟩

/-- R178: the report's quantities in their places. -/
theorem test_report_read : readReport (exReport 42#8 3#8 0#8) = some exBody := by decide

/-- The state an event leads to. -/
def after (c : Instr) (s : State) : State :=
  match exec c s with
  | .next t => t
  | .fault _ => s
  | .refused _ => s

/-- A station with some peer entries. -/
def withPeers (entries : List PeerEntry) (s : State) : State := s.setPeers { s.peers with entries := entries }

/-- A station with some frames in its Receive Queue. -/
def withFrames (frames : List Frame) (s : State) : State := s.setLine { s.line with rxQueue := frames }

/-- Station 17 with the entry of station 42, last sequence 250 (spec/01 "Sequence Wrap and Restart"). -/
def ex42 (age : Nat) : State :=
  withPeers
    [ { exTransfer 42 1 900 .inSector (freshnessOfAge exD age) age none false with
        ageTimer := if age < 65535 then .running 10 else .stopped } ] exT

/-- spec/01 "Sequence Wrap and Restart": sequence 3 is accepted, 250 a duplicate, 245 out of order. -/
theorem test_report_window :
    (after .takeStationReport (withFrames [exReport 42#8 3#8 0#8] (ex42 0))).peers.entries.map
        (fun e => (e.lastSequence, e.acceptedCount)) = [(3#8, 2)]
      ∧ (after .takeStationReport (withFrames [exReport 42#8 250#8 0#8] (ex42 0))).peers.duplicates = 1
      ∧ (after .takeStationReport (withFrames [exReport 42#8 245#8 0#8] (ex42 0))).peers.outOfOrder = 1 := by
  decide +kernel

/-- spec/01 "Sequence Wrap and Restart": START carries a report through whatever its sequence; so does LOST. -/
theorem test_report_overrides :
    (after .takeStationReport (withFrames [exReport 42#8 245#8 1#8] (ex42 0))).peers.outOfOrder = 0
      ∧ (after .takeStationReport (withFrames [exReport 42#8 245#8 0#8] (ex42 30))).peers.entries.map
          (fun e => (e.freshness, e.age)) = [(.fresh, 0)] := by decide +kernel

/-- spec/01 "An Entry Ages and Returns": second 9 FRESH, second 10 STALE with a notice, second 30 LOST with one. -/
theorem test_ageing :
    ([8, 9, 29].map (fun n =>
      let t := after (.ageTimerExpiry 42) (ex42 n)
      (t.peers.entries.map (fun e => e.freshness), t.share.triggers)))
      = [([.fresh], 0), ([.stale], 1), ([.lost], 1)] := by decide +kernel

/-- spec/01 "Eviction in a Full Table": the LOST entry goes first, then the oldest OUTSIDE one, then none. -/
theorem test_victim :
    (victim [exTransfer 88 0 0 .inSector .lost 412 none false, exTransfer 201 0 0 .outside .stale 95 none false,
        exTransfer 215 0 0 .outside .fresh 30 none false]).map (fun e => e.number) = some 88
      ∧ (victim [exTransfer 201 0 0 .outside .stale 95 none false,
          exTransfer 215 0 0 .outside .stale 95 none false]).map (fun e => e.number) = some 201
      ∧ victim [exTransfer 127 0 0 .inSector .stale 12 none false] = none := by decide

/-! ### Small tests of the events -/

/-- R168, R169: the straps BAND2 high, BAND1 low, BAND0 high and BAND_END low read as code 5, TOP. -/
theorem test_straps : readStraps ⟨.high, .low, .high, .low⟩ = ⟨5, .top⟩ := by decide

/-- R169: the memory lane carries select, 03H and the address 0 at the release, and after 106 characters the release. -/
theorem test_memory_lane :
    (after (.resetPinRelease ⟨.high, .low, .high, .low⟩) State.reset).control.memoryLane
        = [.select, .send 0x03#8, .send 0x00#8, .send 0x00#8]
      ∧ (after (.descriptorReadComplete exBytes) exS).control.memoryLane
        = [.select, .send 0x03#8, .send 0x00#8, .send 0x00#8, .read 106, .release] := by decide +kernel

/-- R171: lost_time 10 beside stale_time 10 becomes 11; Hmax 16 beside Hmin 1200 becomes 1200; join_time 255 becomes
60, and a class of 9 becomes 3, whatever the others are. -/
theorem test_clamping :
    ((judgeDescriptor (exBytes.set 13 10#8)).map (fun d => (clampDescriptor d).lostTime) = some 11)
      ∧ ((judgeDescriptor (exBytes.set 68 0#8)).map (fun d => (clampDescriptor d).hMax) = some 1200)
      ∧ ((judgeDescriptor ((exBytes.set 11 255#8).set 7 9#8)).map (fun d =>
          ((clampDescriptor d).joinTime, (clampDescriptor d).ownClass)) = some (60, 3)) := by decide +kernel

/-- R63, R145: after power-up FAILSAFE and NO_OFFER are true and every other condition is false; ALARM is low. -/
theorem test_word_at_reset :
    State.reset.conditionWord = 0x028000#22 ∧ State.reset.alarmLine = false := by decide

/-- R53, R144: with the reading taken before the computation the trigger of the same period end sees the new record; the
flow target keeps to the old grant. -/
theorem test_read_then_computation :
    (let t (order : GrantOrder) := after (.valveLoopControlPeriodExpiry order) exT
     ([GrantOrder.computationFirst, .readThenComputation, .readFirst].map (fun order =>
      ((t order).valve.qt, (t order).share.record.requestUsed, (t order).share.triggers))))
      = [(600, 900, 0), (0, 900, 0), (0, 0, 1)] := by decide +kernel

/-- R170, R173: an unreadable memory (all ones) leaves the station UNCONFIGURED, a good one in JOINING. R135: LOCAL_HAND,
ISOLATION_CLOSED and MAINT_LOCK fit TRANSFER, PLANT_TRIP and MAINT_LOCK fit PLANT; a code that does not fit, and the code
5, is NONE and latches DESCRIPTOR_CLAMPED. -/
theorem test_descriptor_read_complete :
    (after (.descriptorReadComplete []) exS).control.mode = .unconfigured
      ∧ (after (.descriptorReadComplete exBytes) exS).control.mode = .joining
      ∧ (after (.descriptorReadComplete exBytes) exS).valve.command = 1500
      ∧ (after (.descriptorReadComplete exBytes) exS).latched .restarted = true
      ∧ (let u (role code0 code3 : Byte) :=
          let v := after (.descriptorReadComplete (((exBytes.set 6 role).set 101 code0).set 104 code3)) exS
          (v.measure.functions, v.latched .descriptorClamped)
         [u 1#8 0#8 4#8, u 1#8 3#8 4#8, u 1#8 1#8 5#8, u 2#8 3#8 4#8])
        = [(⟨.none, .isolationClosed, .localHand, .maintLock⟩, false),
           (⟨.none, .isolationClosed, .localHand, .maintLock⟩, true),
           (⟨.localHand, .isolationClosed, .localHand, .none⟩, true),
           (⟨.plantTrip, .none, .none, .maintLock⟩, true)] := by decide +kernel

/-- R139, R45: the join timer's expiry enters RUNNING and queues the first report. -/
theorem test_join : (after (.joinTimerExpiry .alarmFirst) (exIn .joining)).readyLine = true
    ∧ (after (.joinTimerExpiry .alarmFirst) (exIn .joining)).line.inFlight = some (.report none) := by
  decide +kernel

/-- R141, R148: HOLD_EXPIRED, enabled in exD's urgent mask, queues an ALARM. -/
theorem test_hold_expiry : (after .holdTimerExpiry (exIn .hold)).latched .holdExpired = true
    ∧ (after .holdTimerExpiry (exIn .hold)).line.inFlight = some (.alarm none) := by decide +kernel

/-- R93, R103: with Q absent the valve goes to the fail position, 1500, and the record says FAILSAFE. -/
theorem test_valve_fail : (after (.valveLoopControlPeriodExpiry .readFirst) exT).driveLane
    = [[0x5A#8, 0x01#8, 0x05#8, 0xDC#8]] := by decide +kernel

/-- R140: HOLD for 120 s from a tool, admitted, is answered and freezes. -/
theorem test_hold_command :
    (let t := after .hold (withFrames [exFrame 8#8 241#8 17#8 [0x00780000#32]] exT)
     (t.control.mode, t.control.holdTimer, t.command.accepted, t.line.txCount)) = (.hold, .running 1200, 1, 1) := by
  decide +kernel

/-- R163: a HOLD with a body group too many is MALFORMED, counted and answered with reason 1. -/
theorem test_refused_command :
    (let t := after .hold (withFrames [exFrame 8#8 241#8 17#8 [0x00780000#32, 0#32]] exT)
     (t.control.mode, t.command.refused, t.line.inFlight)) =
      (.running, 1, some (.reply ⟨241#8, 3#8, [0x08030100#32], false⟩)) := by decide +kernel

/-- R72, R71: a LIMIT_BLOCK of 500 for 60 s, mode CHAIN, is the limit in force at once. -/
theorem test_limit_block :
    (after .limitBlock (withFrames [exFrame 4#8 241#8 17#8 [0x01F4003C#32, 0x03000000#32]] exT)).limit.active
      = .running ⟨500, 60, .chain⟩ 60 := by decide +kernel

/-- R79: a SHED of threshold 1 applies to class 1, one of threshold 2 does not. -/
theorem test_shed :
    (after (.shed .alarmFirst) (withFrames [exFrame 6#8 241#8 255#8 [0x0100001E#32]] exT)).limit.shed
        = .inForce 1 30
      ∧ (after (.shed .alarmFirst) (withFrames [exFrame 6#8 241#8 255#8 [0x0200001E#32]] exT)).limit.shed
        = .off := by decide +kernel

/-- R126, R131: a record with DP 1320 GOOD and Ts suspect; the first good DP sets DPf. -/
theorem test_sample_record :
    (let t := after (.sampleRecord
        ([0x55#8, 1#8] ++ [0x02#8, 0x8A#8, 1#8] ++ [0x04#8, 0x4C#8, 0#8] ++ [0x04#8, 0xB0#8, 0#8]
          ++ [0x05#8, 0x28#8, 0#8] ++ [0x27#8, 0x11#8, 0#8] ++ [0x05#8, 0xDC#8, 0#8])) exT
     (t.reading .ts, t.reading .tr, t.reading .q, t.measure.dpf, t.reading .vf, t.reading .qb)) =
      (none, some 1100, some 1200, some 1320, none, some 1500) := by decide +kernel

/-- R133: with debounce 2 a change of IN1 starts its timer, and the return of the level stops it. -/
theorem test_debounce :
    (let t := after (.rawLevelChange .in1 .high) exT
     (t.measure.inputs.in1.debounceTimer, (after (.rawLevelChange .in1 .low) t).measure.inputs.in1.debounceTimer,
      (after (.debounceTimerExpiry .in1) t).measure.functionActive .isolationClosed)) =
      (.running 2, .stopped, true) := by decide +kernel

/-- R36, R37, R176: the first report carries sequence 0 and START; its header groups by their layout. -/
theorem test_attempt_start :
    (let s := exT.setLine { exT.line with
        lineState := .idle
        receiver := .testing
        inFlight := some (.report none)
        holdoff := some 0 }
     ((after .attemptStart s).line.sending.take 11, (after .attemptStart s).reports.sequence)) =
      ([0x3C#8, 255#8, 17#8, 1#8, 0#8, checkCharacter 0xFF110100#32, 5#8, 1#8, 1#8, 1#8,
        checkCharacter 0x05010101#32], 1#8) := by decide +kernel

/-- R160: the second window is 16 character times. -/
theorem test_jam_end :
    (let s := exT.setLine { exT.line with
        lineState := .jam
        inFlight := some (.report none)
        attempts := 1
        holdoff := some 0 }
     ((after (.jamEnd .choiceFirst .alarmFirst) s).line.window,
      (after (.jamEnd .choiceFirst .alarmFirst) s).line.lineState)) = (16, .busy) := by decide +kernel

/-! ### Witnesses: for every statement with hypotheses, states and operands that meet them -/

/-- A safe station that meets a condition. -/
def Meets (s : State) (p : Bool) : Prop := StationOk s ∧ p = true

/-- The two, evaluated together. -/
theorem meets {s : State} {p : Bool} (h : (isOk s && p) = true) : Meets s p := by
  rw [Bool.and_eq_true] at h
  exact ⟨stationOk h.1, h.2⟩

/-- The transfer station with fields GOOD at the given values, and with inputs ACTIVE. -/
def exMeasured (mode : Mode) (ts tr q dp vf : Option Nat) (isolation hand : Bool) : State :=
  let field (v : Option Nat) : Field :=
    match v with
    | some n => ⟨some n, .good, .stopped⟩
    | none => .atReset
  let input (b : Bool) : Input := if b then ⟨.high, true, .stopped, true⟩ else ⟨.low, false, .stopped, false⟩
  (exIn mode).setMeasure { (exIn mode).measure with
    fields := ⟨field ts, field tr, field q, field dp, field vf, field (some 1500), .atReset⟩
    dpf := dp
    inputs := ⟨input false, input isolation, input hand, input false⟩ }

/-- The transfer station with its Transmit Queue and attempt as given. -/
def exSending (lineState : LineState) (attempts : Nat) (inFlight : TxEntry) (waiting : List TxEntry) : State :=
  exT.setLine { exT.line with
    lineState := lineState
    receiver := if lineState = .idle then .testing else .skipping
    inFlight := some inFlight
    waiting := waiting
    attempts := attempts
    holdoff := some 7
    sending := if lineState = .ownTransmit then [0x3C#8] else [] }

/-- A reply, marked or not. -/
def exReply (restart : Bool) : TxEntry := .reply ⟨241#8, 3#8, [0x0B030000#32], restart⟩

/-- A full Transmit Queue of replies, of which the newest is marked or not. -/
def exFull (restart : Bool) : State :=
  exSending .busy 0 (exReply false) [exReply false, exReply false, exReply false, exReply false, exReply restart]

/-- A table of 48 entries, all FRESH and IN_SECTOR but the first, which has the given freshness and age. -/
def exFullTable (membership : Membership) (freshness : Freshness) (age : Nat) : List PeerEntry :=
  (List.range 47).map (fun k => exTransfer (100 + k) 1 10 .inSector .fresh 0 none false)
    ++ [exTransfer (if membership = .outside then 201 else 160) 1 10 membership freshness age none false]

/-- The station in HOLD with a Transmit Queue, its HOLD_EXPIRED urgent and clear. -/
def exHeld (inFlight : TxEntry) (waiting : List TxEntry) : State :=
  (exIn .hold).setLine (exSending .busy 0 inFlight waiting).line

/-- A setting displaces no reply of a RESTART from a queue that has room. -/
theorem displaces_nothing {l : Latch} {s : State} (h : s.line.txCount < 6) : ¬ DisplacesRestart l s :=
  fun d => absurd d.2.2.2.2.1 (by omega)

/-- A queue of five waiting replies, of which the newest is marked or not. -/
def exFive (restart : Bool) : List TxEntry :=
  [exReply false, exReply false, exReply false, exReply false, exReply restart]

theorem witness_StepRunsFrontCommand : State.reset.pending = [] := rfl

theorem witness_StepsKeepStationSafe :
    ∃ s t, StationOk s ∧ s.pending ≠ [] ∧ step s = .next t :=
  ⟨{ exIn .hold with pending := [.holdTimerExpiry] }, _, stationOk (by decide +kernel), by decide, rfl⟩

theorem witness_PinReleaseSamplesStraps :
    Meets State.reset (decide (State.reset.control.pinAsserted = true))
      ∧ Meets exS (decide (exS.control.pinAsserted = false)) :=
  ⟨meets (by decide +kernel), meets (by decide +kernel)⟩

theorem witness_InvalidDescriptorEndsUnconfigured :
    Meets exS (decide (exS.readInProgress = true ∧ judgeDescriptor (List.replicate 106 0xFF#8) = none)) :=
  meets (by decide +kernel)

theorem witness_SafeRecordEachSecond :
    Meets exU (decide (exU.control.mode = .unconfigured)) ∧ Meets exT (decide (exT.control.mode ≠ .unconfigured)) :=
  ⟨meets (by decide +kernel), meets (by decide +kernel)⟩

theorem witness_ValidDescriptorEntersJoining :
    Meets exS (decide (exS.readInProgress = true ∧ judgeDescriptor exBytes = some exD))
      ∧ (let s := exS.setMeasure (.atReset ⟨.low, .high, .low, .low⟩)
         Meets s (decide (s.readInProgress = true ∧ (s.measure.inputs.get .in1).raw = activeLevel exD .in1))
          ∧ (judgeDescriptor (exBytes.set 20 0#8)).map (fun d => d.debounce) = some 0
          ∧ (after (.descriptorReadComplete exBytes) s).measure.inputs.in1.debounceTimer = .running 2
          ∧ (after (.descriptorReadComplete ((exBytes.set 20 0#8).set 100 0xFF#8)) s).measure.inputs.in1.active
              = true)
      ∧ (judgeDescriptor (exBytes.set 101 3#8)).map (fun d => d.functionCodes) = some ⟨3#8, 2#8, 1#8, 4#8⟩
      ∧ (judgeDescriptor (exBytes.set 104 5#8)).map (fun d => d.functionCodes) = some ⟨0#8, 2#8, 1#8, 5#8⟩ :=
  ⟨meets (by decide +kernel), ⟨meets (by decide +kernel), by decide +kernel, by decide +kernel, by decide +kernel⟩,
    by decide +kernel, by decide +kernel⟩

theorem witness_ClampingBringsIntoRange : (judgeDescriptor exBytes = some exD ∧ DescriptorOk exD)
    ∧ (judgeDescriptor (exBytes.set 13 10#8)).map (fun d => (d.staleTime, d.lostTime)) = some (10, 10)
    ∧ (judgeDescriptor (exBytes.set 13 11#8)).map (fun d => (d.staleTime, d.lostTime)) = some (10, 11)
    ∧ (judgeDescriptor (exBytes.set 68 0#8)).map (fun d => (d.hMin, d.hMax)) = some (1200, 16)
    ∧ (judgeDescriptor ((exBytes.set 24 240#8).set 25 240#8)).map (fun d => d.sectors.drop 1)
        = some [⟨240, 240, true⟩, ⟨239, 1, false⟩, ⟨239, 1, false⟩] := by
  decide +kernel

theorem witness_DriveBandInsideRange :
    (DescriptorOk exD ∧ DescriptorOk exDP) ∧ (⟨0, .top⟩ : StrapReading).code ≤ 7
      ∧ (⟨7, .top⟩ : StrapReading).code ≤ 7 ∧ (⟨7, .bottom⟩ : StrapReading).code ≤ 7
      ∧ (∀ soft ∈ [(9000, 8999), (7500, 7500), (7501, 10000)],
          DescriptorOk { exD with softLo := soft.1, softHi := soft.2 })
      ∧ (hardwareBand ⟨5, .top⟩ (driveRange exD)) = ⟨0, 7500⟩ := by decide +kernel

theorem witness_OutputLinesFollowMode :
    (State.reset.control.mode = .starting ∧ exU.control.mode = .unconfigured ∧ exT.active = true
      ∧ (exIn .joining).active = true ∧ (exIn .hold).active = true)
      ∧ Meets (exIn .joining) (decide ((exIn .joining).readyLine = false
          ∧ (after (.joinTimerExpiry .alarmFirst) (exIn .joining)).readyLine = true))
      ∧ Meets exT (decide (exT.readyLine = true ∧ (after .resetPinAssert exT).readyLine = false)) :=
  ⟨by decide, meets (by decide +kernel), meets (by decide +kernel)⟩

theorem witness_JoinTimerEntersRunning :
    Meets (exIn .joining) (decide ((exIn .joining).control.mode = .joining))
      ∧ (let s := (exIn .joining).setCondition { (exIn .joining).condition with
            latches := 0x0400#14
            alarmDue := true }
         Meets s (decide (s.control.mode = .joining ∧ s.condition.alarmDue = true)))
      ∧ Meets exT (decide (exT.control.mode ≠ .joining)) :=
  ⟨meets (by decide +kernel), meets (by decide +kernel), meets (by decide +kernel)⟩

theorem witness_HoldTimerEndsHold :
    Meets (exIn .hold) (decide ((exIn .hold).control.mode = .hold))
      ∧ (let hyps (s : State) := Meets s (decide (s.control.mode = .hold ∧ s.latched .holdExpired = false
            ∧ s.urgent .holdExpired = true))
         hyps (exHeld (exReply false) [.alarm none])
          ∧ hyps (exHeld (.alarm (some 0#8)) [])
          ∧ hyps (exHeld (exReply false) ((exFive false).take 4))
          ∧ hyps (exHeld (exReply false) (.report none :: (exFive true).drop 1))
          ∧ hyps (exHeld (exReply true) (exFive false))
          ∧ hyps (exHeld (exReply false) (exFive true)))
      ∧ Meets exT (decide (exT.control.mode ≠ .hold)) :=
  ⟨meets (by decide +kernel), ⟨meets (by decide +kernel), meets (by decide +kernel), meets (by decide +kernel),
    meets (by decide +kernel), meets (by decide +kernel), meets (by decide +kernel)⟩, meets (by decide +kernel)⟩

/-- What the setting of an urgent latch does with each of these queues (R148, R157, R167). -/
theorem test_urgent_latch :
    (let t (s : State) := after .holdTimerExpiry s
     ((t (exHeld (exReply false) [.alarm none])).line.waiting,
      (t (exHeld (.alarm (some 0#8)) [])).condition.alarmDue,
      (t (exHeld (exReply false) ((exFive false).take 4))).line.waiting.getLast?,
      (t (exHeld (exReply false) (.report none :: (exFive true).drop 1))).reports.reportDue,
      (t (exHeld (exReply true) (exFive false))).line.repliesLost,
      (t (exHeld (exReply false) (exFive true))).control.mode))
      = ([.alarm none], true, some (.alarm none), true, 1, .starting) := by decide +kernel

/-- A queue from which the setting displaces the reply of a RESTART, and one from which it displaces another. -/
theorem witness_DisplacesRestart :
    (let running (s : State) := s.setControl { s.control with
        mode := .running
        holdTimer := .stopped }
     DisplacesRestart .holdExpired (running (exHeld (exReply false) (exFive true)))
      ∧ ¬ DisplacesRestart .holdExpired (running (exHeld (exReply true) ((exFive false).take 4)))) :=
  ⟨⟨by decide +kernel, by decide +kernel, by decide +kernel, by decide +kernel, by decide +kernel, by decide +kernel,
    (exFive true).take 4, ⟨241#8, 3#8, [0x0B030000#32], true⟩, [], rfl, rfl, rfl⟩,
    displaces_nothing (by decide +kernel)⟩

/-- The hold timer's expiry with room, and with the reply of a RESTART displaced from a full queue. -/
theorem witness_ModeMovesOnlyByItsEvents :
    (∃ t, exec .holdTimerExpiry (exIn .hold) = .next t ∧ StationOk (exIn .hold)
      ∧ t.control.mode ≠ (exIn .hold).control.mode)
    ∧ (let s := exHeld (exReply false) (exFive true)
       ∃ t, exec .holdTimerExpiry s = .next t ∧ StationOk s ∧ t.control.mode = .starting
        ∧ s.line.txCount = 6 ∧ ∃ e ∈ s.line.waiting, e.marked = true) :=
  ⟨⟨_, rfl, exH_ok, by decide +kernel⟩,
    ⟨_, rfl, stationOk (by decide +kernel), by decide +kernel, by decide +kernel, by decide +kernel⟩⟩

theorem witness_ConfigurationFixedUntilReset :
    ∃ t, StationOk (exIn .hold) ∧ exec .holdTimerExpiry (exIn .hold) = .next t ∧ (exIn .hold).active = true :=
  ⟨_, exH_ok, rfl, by decide +kernel⟩

/-- Each case of the limiter at its boundary, and each of the request. -/
theorem witness_ValvePeriodFormsRequest :
    Meets (exMeasured .running (some 650) (some 1149) none none none false false)
        (decide ((exMeasured .running (some 650) (some 1149) none none none false false).isTransfer = true))
      ∧ Meets (exMeasured .running (some 650) (some 1150) none none none false false) true
      ∧ Meets (exMeasured .hold (some 650) (some 1250) none none none false false) true
      ∧ Meets (exMeasured .joining none (some 1250) none none none true false) true
      ∧ Meets (exT.setLimit { exT.limit with
            active := .running ⟨20000, 1, .single⟩ 1
            blockTimer := .running 10
            shed := .inForce 0 1
            shedTimer := .running 10 })
          (decide (exT.isTransfer = true)) :=
  ⟨meets (by decide +kernel), meets (by decide +kernel), meets (by decide +kernel), meets (by decide +kernel),
    meets (by decide +kernel)⟩

/-- Q absent, JOINING, HOLD, in hand with Vf present and absent, isolation closed, and the normal case. -/
theorem witness_ValvePeriodMovesValve :
    Meets exT (decide (exT.isTransfer = true ∧ exT.reading .q = none))
      ∧ Meets (exMeasured .joining none none (some 1200) none none false false) true
      ∧ Meets (exMeasured .hold none none (some 1200) none none false false)
          (decide ((exMeasured .hold none none (some 1200) none none false false).reading .q = some 1200))
      ∧ Meets (exMeasured .running none none (some 1200) none (some 10000) false true)
          (decide ((exMeasured .running none none (some 1200) none (some 10000) false true).measure.functionActive
            .localHand = true))
      ∧ Meets (exMeasured .running none none (some 1200) none none false true) true
      ∧ Meets (exMeasured .running none none (some 0) none none true false) true
      ∧ Meets (exMeasured .running none none (some 20000) none none false false) true :=
  ⟨meets (by decide +kernel), meets (by decide +kernel), meets (by decide +kernel), meets (by decide +kernel),
    meets (by decide +kernel), meets (by decide +kernel), meets (by decide +kernel)⟩

/-- The starve count rises at a valve wide open and short by one more than starve_margin, and is 0 at one short by
exactly starve_margin; the margin is present and absent. -/
theorem witness_ValvePeriodSetsFlags :
    (let s (q : Nat) := ((exMeasured .hold none none (some q) (some 1320) none false false).setValve
        { exT.valve with
          command := 7500
          starve := 2
          qt := 0 }).setShare
        { exT.share with record := { exT.share.record with requestUsed := 1500, grant := 1500 } }
     Meets (s 1449) (decide ((after (.valveLoopControlPeriodExpiry .readFirst) (s 1449)).valve.starved = true))
      ∧ Meets (s 1450) (decide ((after (.valveLoopControlPeriodExpiry .readFirst) (s 1450)).valve.starve = 0)))
      ∧ Meets exT (decide (exT.reading .dp = none)) :=
  ⟨⟨meets (by decide +kernel), meets (by decide +kernel)⟩, meets (by decide +kernel)⟩

/-- A difference of exactly report_delta calls for a report and one of one less does not; with a waiting REPORT, with no
snapshot and in JOINING nothing changes. -/
theorem witness_ChangeTriggerAtPeriodEnd :
    (let s (qr : Nat) := exT.setReports { exT.reports with
        snapshot := some (.transfer qr false false false false false .noOffer (exT.conditionWord)) }
     let t (qr : Nat) := after (.valveLoopControlPeriodExpiry .readFirst) (s qr)
     Meets (s 800) (decide ((s 800).speaking = true ∧ (s 800).line.absorbsReport = false
          ∧ (t 800).valve.qr = 900))
      ∧ Changed exD.reportDelta (.transfer 800 false false false false false .noOffer exT.conditionWord)
          (presentSnapshot (t 800))
      ∧ Meets (s 801) (decide ((s 801).speaking = true))
      ∧ ¬ Changed exD.reportDelta (.transfer 801 false false false false false .noOffer exT.conditionWord)
          (presentSnapshot (t 801)))
    ∧ Meets (exSending .busy 0 (.report none) []) (decide ((exSending .busy 0 (.report none) []).line.absorbsReport
        = true))
    ∧ Meets (exPlantIn .joining) (decide ((exPlantIn .joining).active = true
        ∧ (exPlantIn .joining).speaking = false ∧ (exPlantIn .joining).reports.snapshot = none)) := by
  refine ⟨⟨meets (by decide +kernel), ?_, meets (by decide +kernel), ?_⟩, meets (by decide +kernel),
    meets (by decide +kernel)⟩
  · exact .inl (by decide +kernel)
  · show ¬ (_ ∨ _ ∨ _ ∨ _ ∨ _ ∨ _ ∨ _ ∨ _)
    decide +kernel

/-- Two eligible peers of equal least margin, none eligible, and JOINING. -/
theorem witness_CriticalStationIsLeastMargin :
    Meets (withPeers [exTransfer 17 1 0 .inSector .fresh 0 (some (-3000)) true,
        exTransfer 30 1 0 .inSector .fresh 9 (some (-3000)) false] exP) (decide (exP.isPlant = true))
      ∧ Meets (withPeers [exTransfer 17 1 0 .inSector .stale 10 (some (-3000)) true] exP) true
      ∧ Meets (exPlantIn .joining) (decide ((exPlantIn .joining).isPlant = true)) :=
  ⟨meets (by decide +kernel), meets (by decide +kernel), meets (by decide +kernel)⟩

/-- Every head case: ISOLATED below, above and at H_isolated, NO_PEERS, STARVED and PROPORTIONAL. -/
theorem witness_HeadPeriodMovesHead :
    Meets (exPlantIn .joining) (decide ((exPlantIn .joining).control.mode = .joining))
      ∧ Meets (exPlantIn .hold) (decide ((exPlantIn .hold).control.mode = .hold))
      ∧ (let s (h : Nat) := (exP.setLine { exP.line with
            isolated := true
            silenceTimer := .stopped }).setHead { exP.head with setpoint := h }
         Meets (s 2999) (decide ((s 2999).line.isolated = true)) ∧ Meets (s 3001) true ∧ Meets (s 3000) true)
      ∧ Meets exP (decide ((after .headControlPeriodExpiry exP).head.eligible = 0))
      ∧ (let s (starved : Bool) := withPeers [exTransfer 17 1 0 .inSector .fresh 0 (some 120) starved] exP
         Meets (s true) (decide ((after .headControlPeriodExpiry (s true)).head.starvedEligible = 1))
          ∧ Meets (s false) (decide ((after .headControlPeriodExpiry (s false)).head.eligible = 1
              ∧ (after .headControlPeriodExpiry (s false)).head.starvedEligible = 0))) :=
  ⟨meets (by decide +kernel), meets (by decide +kernel),
    ⟨meets (by decide +kernel), meets (by decide +kernel), meets (by decide +kernel)⟩, meets (by decide +kernel),
    ⟨meets (by decide +kernel), meets (by decide +kernel)⟩⟩

theorem witness_ShareComputationAnswersTrigger :
    Meets (exT.setShare { exT.share with triggers := 1 })
        (decide (exT.speaking = true ∧ exT.isTransfer = true))
      ∧ Meets exT (decide (exT.share.triggers = 0)) ∧ Meets exP (decide (exP.isTransfer = false))
      ∧ Meets (exIn .joining) (decide ((exIn .joining).speaking = false)) :=
  ⟨meets (by decide +kernel), meets (by decide +kernel), meets (by decide +kernel), meets (by decide +kernel)⟩

/-- FULL, PRORATED and CUT, ISOLATED, NO_OFFER, a request of 0, and a remainder equal to the class sum. -/
theorem witness_ComputationFollowsStages :
    (exInputs (exTable 3000)).ownClass ≤ 3
      ∧ (∀ e ∈ exTable 3000, ∀ p, e.part = .transfer p → p.cls ≤ 3)
      ∧ (computeShare (exInputs (exTable 3000))).outcome = .prorated
      ∧ (computeShare (exInputs ((exTable 0).filter (fun e => e.number ≠ 5)))).outcome = .cut
      ∧ (computeShare (exInputs (exTable 3600))).outcome = .full
      ∧ (computeShare (exInputs (exTable 3599))).outcome = .prorated
      ∧ (computeShare { exInputs (exTable 3000) with isolated := true }).outcome = .isolated
      ∧ (computeShare (exInputs [])).outcome = .noOffer
      ∧ (computeShare { exInputs (exTable 0) with qr := 0 }).outcome = .full := by
  refine ⟨by decide, ?_, by decide, by decide, by decide, by decide, by decide, by decide, by decide⟩
  intro e he p hp
  simp [exTable, exPlant, exTransfer] at he
  rcases he with rfl | rfl | rfl | rfl | rfl | rfl | rfl | rfl <;> simp at hp <;> subst hp <;> decide

theorem witness_GrantWithinRequest :
    (computeShare (exInputs (exTable 3000))).outcome ≠ .isolated
      ∧ (computeShare (exInputs (exTable 3000))).outcome ≠ .noOffer
      ∧ (computeShare { exInputs (exTable 0) with qr := 400 }).grant = 400 := by decide

theorem witness_SharesFitCapacity :
    1 ≤ 3 ∧ ∀ e ∈ exTable 3000, ∀ p, e.part = .transfer p → p.cls ≤ 3 :=
  ⟨by decide, witness_ComputationFollowsStages.2.1⟩

/-- The ages before the stale and the lost expiry, before 65535, at it, and one that moves nothing. -/
theorem witness_AgeTimerAgesEntry :
    Meets (ex42 9) (decide (∃ e ∈ (ex42 9).peers.entries, e.number = 42 ∧ e.age + 1 = exD.staleTime))
      ∧ Meets (ex42 29) (decide (∃ e ∈ (ex42 29).peers.entries, e.age + 1 = exD.lostTime))
      ∧ Meets (ex42 0) true ∧ Meets (ex42 65534) true
      ∧ Meets (ex42 65535) (decide (∀ e ∈ (ex42 65535).peers.entries, e.number = 42 → e.age = 65535)) :=
  ⟨meets (by decide +kernel), meets (by decide +kernel), meets (by decide +kernel), meets (by decide +kernel),
    meets (by decide +kernel)⟩

/-- A role change, a LOST entry, START, and the differences 0, 1, 127, 128 and 255 from the sequence 250. -/
theorem witness_ReportIntoExistingEntry :
    (let s (age : Nat) (sequence flags : Byte) := withFrames [exReport 42#8 sequence flags] (ex42 age)
     let hyps (age : Nat) (sequence flags : Byte) :=
      Meets (s age sequence flags)
        (decide (ReportAtFront (exReport 42#8 sequence flags) exBody [] (s age sequence flags)
          ∧ ∃ e ∈ (s age sequence flags).peers.entries, e.number = 42))
     hyps 30 0#8 0#8 ∧ hyps 0 0#8 1#8 ∧ hyps 0 250#8 0#8 ∧ hyps 0 251#8 0#8 ∧ hyps 0 121#8 0#8
      ∧ hyps 0 122#8 0#8 ∧ hyps 29 249#8 0#8)
    ∧ (let s := withPeers [exPlant 42 900 .inSector .fresh 0] (withFrames [exReport 42#8 0#8 0#8] exT)
       Meets s (decide (ReportAtFront (exReport 42#8 0#8 0#8) exBody [] s))) :=
  ⟨⟨meets (by decide +kernel), meets (by decide +kernel), meets (by decide +kernel), meets (by decide +kernel),
    meets (by decide +kernel), meets (by decide +kernel), meets (by decide +kernel)⟩, meets (by decide +kernel)⟩

/-- Station 200 is OUTSIDE and station 199 IN_SECTOR of the sector 1 to 199; 47 entries leave one place. -/
theorem witness_ReportCreatesEntry :
    (let s (source : Byte) (entries : List PeerEntry) := withPeers entries (withFrames [exReport source 0#8 0#8] exT)
     let hyps (source : Byte) (entries : List PeerEntry) :=
      Meets (s source entries) (decide (ReportAtFront (exReport source 0#8 0#8) exBody [] (s source entries)
        ∧ (∀ e ∈ entries, e.number ≠ source.toNat) ∧ entries.length < 48))
     hyps 199#8 [] ∧ hyps 200#8 [] ∧ hyps 1#8 ((exFullTable .inSector .fresh 0).take 47)) :=
  ⟨meets (by decide +kernel), meets (by decide +kernel), meets (by decide +kernel)⟩

/-- A LOST victim, an OUTSIDE one, and none. -/
theorem witness_FullTableEvictsOrRefuses :
    (let t (m : Membership) (f : Freshness) (age : Nat) :=
      withPeers (exFullTable m f age) (withFrames [exReport 150#8 0#8 0#8] exT)
     let hyps (m : Membership) (f : Freshness) (age : Nat) :=
      Meets (t m f age) (decide (ReportAtFront (exReport 150#8 0#8 0#8) exBody [] (t m f age)
        ∧ (∀ e ∈ (t m f age).peers.entries, e.number ≠ 150) ∧ (t m f age).peers.entries.length = 48))
     hyps .inSector .lost 30 ∧ (∃ v ∈ exFullTable .inSector .lost 30, IsVictim (exFullTable .inSector .lost 30) v)
      ∧ hyps .outside .fresh 0 ∧ (∃ v ∈ exFullTable .outside .fresh 0, IsVictim (exFullTable .outside .fresh 0) v)
      ∧ hyps .inSector .stale 29
      ∧ (∀ e ∈ exFullTable .inSector .stale 29, e.membership = .inSector ∧ e.freshness ≠ .lost)) :=
  ⟨meets (by decide +kernel), by decide +kernel, meets (by decide +kernel), by decide +kernel,
    meets (by decide +kernel), by decide +kernel⟩

/-- The own number, the numbers 0, 240 and 254, and each way to be malformed. -/
theorem witness_ReportsDiscarded :
    (let s (f : Frame) := withFrames [f] exT
     let hyps (f : Frame) := Meets (s f) (decide (AtFront .stationReport f [] (s f)))
     hyps (exReport 17#8 0#8 0#8) ∧ hyps (exReport 0#8 0#8 0#8) ∧ hyps (exReport 240#8 0#8 0#8)
      ∧ hyps (exReport 254#8 0#8 0#8) ∧ hyps { exReport 42#8 0#8 0#8 with groupCount := 4#8 }
      ∧ hyps { exReport 42#8 0#8 0#8 with senderRole := 3#8 } ∧ hyps { exReport 42#8 0#8 0#8 with senderMode := 3#8 }
      ∧ hyps (exFrame 1#8 42#8 255#8 [0x04B0044C#32, 0x0BB8FFFF#32, 0x00788000#32, 0x03E80105#32, 0#32])
      ∧ hyps (exFrame 1#8 42#8 255#8 [0xFFFF044C#32, 0x0BB8FFFF#32, 0x00788000#32, 0x03E80102#32, 0#32])
      ∧ hyps { exReport 42#8 0#8 0#8 with
          senderRole := 2#8
          body := [0xFFFF0000#32, 0#32, 0#32, 0#32, 0#32] }) :=
  ⟨meets (by decide +kernel), meets (by decide +kernel), meets (by decide +kernel), meets (by decide +kernel),
    meets (by decide +kernel), meets (by decide +kernel), meets (by decide +kernel), meets (by decide +kernel),
    meets (by decide +kernel), meets (by decide +kernel)⟩

theorem witness_ReportBodyRead :
    (let f := exReport 42#8 0#8 0#8
     f.groupCount = 5#8 ∧ f.senderRole = 1#8 ∧ f.senderMode = 1#8 ∧ (Group.c4 (f.group 3)).toNat ≤ 4
      ∧ Group.high (f.group 0) ≠ 0xFFFF#16 ∧ Group.low (f.group 0) ≠ 0xFFFF#16
      ∧ Group.high (f.group 1) ≠ 0xFFFF#16 ∧ Group.high (f.group 3) ≠ 0xFFFF#16
      ∧ Group.c3 (f.group 3) ≠ 0xFF#8)
    ∧ (let f : Frame := { exReport 42#8 0#8 0#8 with senderRole := 2#8, senderMode := 2#8 }
       f.groupCount = 5#8 ∧ f.senderRole = 2#8 ∧ f.senderMode = 2#8
        ∧ Group.high (f.group 0) ≠ 0xFFFF#16 ∧ Group.low (f.group 0) ≠ 0xFFFF#16) := by decide

theorem witness_AlarmFrameReplacesWord :
    (let s (f : Frame) := withFrames [f] (ex42 0)
     let hyps (f : Frame) := Meets (s f) (decide (AtFront .alarm f [] (s f)))
     hyps (exFrame 2#8 17#8 255#8 []) ∧ hyps (exFrame 2#8 42#8 255#8 [0x003FFFFF#32])
      ∧ hyps (exFrame 2#8 0#8 255#8 [0#32]) ∧ hyps (exFrame 2#8 240#8 255#8 [0#32])
      ∧ hyps (exFrame 2#8 42#8 255#8 [0#32, 0#32]) ∧ hyps (exFrame 2#8 43#8 255#8 [0#32])) :=
  ⟨meets (by decide +kernel), meets (by decide +kernel), meets (by decide +kernel), meets (by decide +kernel),
    meets (by decide +kernel), meets (by decide +kernel)⟩

theorem witness_CommandsDiscardedBeforeChecks :
    (let f := exFrame 9#8 241#8 255#8 []
     let s := withFrames [f] (exIn .joining)
     Meets s (decide (commandEvent .alarmFirst .release = some .release ∧ AtFront .release f [] s
      ∧ s.control.mode = .joining)))
    ∧ (let f := exFrame 9#8 17#8 17#8 []
       let s := withFrames [f] exT
       Meets s (decide (AtFront .release f [] s ∧ s.speaking = true ∧ f.source.toNat = s.config.number)))
    ∧ (let f := exFrame 11#8 241#8 255#8 []
       let s := withFrames [f] exT
       Meets s (decide (commandEvent .alarmFirst .restart = some .restart ∧ AtFront .restart f [] s
        ∧ s.speaking = true ∧ f.source.toNat ≠ s.config.number ∧ f.destination = 255#8))) :=
  ⟨meets (by decide +kernel), meets (by decide +kernel), meets (by decide +kernel)⟩

/-- A frame for each reason of refusal, and one that is admitted: each reason is reached. -/
theorem witness_AdmissionChecksInOrder :
    (let hold := exFrame 8#8 241#8 17#8 [0x00010000#32]
     let with_ (d : Descriptor) := exT.setControl { exT.control with descriptor := some d }
     [ admission .hold (exFrame 8#8 241#8 17#8 []) exT,
       admission .hold hold (with_ { exD with barred := [0#8, 0#8, 0#8, 8#8] }),
       admission .hold hold (exT.setMeasure { exT.measure with
         inputs := { exT.measure.inputs with in3 := ⟨.high, true, .stopped, true⟩ } }),
       admission .hold hold (with_ { exD with permissions := [7#8, 7#8, 7#8, 7#8, 3#8] }),
       admission .shed (exFrame 6#8 241#8 5#8 [0#32]) exP,
       admission .hold (exFrame 8#8 241#8 17#8 [0#32]) exT,
       admission .forget (exFrame 10#8 241#8 17#8 [0x2A000000#32]) exT,
       admission .hold hold exT ])
      = [.malformed, .barred, .locked, .notPermitted, .wrongRole, .badValue, .noEntry, .accepted] := by
  decide +kernel

theorem witness_RefusedCommandChangesNothing :
    (let f := exFrame 8#8 241#8 17#8 [0#32]
     let s := withFrames [f] exT
     Meets s (decide (commandEvent .alarmFirst .hold = some .hold ∧ AtFront .hold f [] s
      ∧ GoesToChecks .hold f s ∧ admission .hold f s = .badValue))) :=
  meets (by decide +kernel)

/-- An admitted LIMIT_BLOCK at a unit with no block, with a HELD one and with a RUNNING one; LIMIT_CANCEL. -/
theorem witness_LimitBlockAndCancelAtUnit :
    (let f := exFrame 4#8 241#8 17#8 [0x4E210001#32, 0x01000000#32]
     let at_ (a : ActiveBlock) (t : Timer) := withFrames [f] (exT.setLimit { exT.limit with
        active := a
        blockTimer := t })
     let hyps (a : ActiveBlock) (t : Timer) :=
      Meets (at_ a t) (decide (Admitted .limitBlock f [] (at_ a t)))
     hyps .none .stopped ∧ hyps (.held ⟨500, 60, .chain⟩) .stopped
      ∧ hyps (.running ⟨500, 60, .single⟩ 60) (.running 10))
    ∧ (let f := exFrame 5#8 241#8 255#8 []
       let s := withFrames [f] exT
       Meets s (decide (Admitted .limitCancel f [] s))) :=
  ⟨⟨meets (by decide +kernel), meets (by decide +kernel), meets (by decide +kernel)⟩, meets (by decide +kernel)⟩

/-- A SHED of duration 0, one of a threshold above the own class 1, one at it, and one at it whose reply is dropped. -/
theorem witness_ShedAtUnit :
    (let f (g : Group) := exFrame 6#8 241#8 17#8 [g]
     let s (g : Group) := withFrames [f g] exT
     let hyps (g : Group) := Meets (s g) (decide (Admitted .shed (f g) [] (s g)))
     hyps 0x01000000#32 ∧ hyps 0x02000001#32 ∧ hyps 0x01000001#32
      ∧ Meets (withFrames [f 0x01000001#32] (exFull true))
          (decide (Admitted .shed (f 0x01000001#32) [] (withFrames [f 0x01000001#32] (exFull true))
            ∧ DropsReply (f 0x01000001#32) (withFrames [f 0x01000001#32] (exFull true))))) :=
  ⟨meets (by decide +kernel), meets (by decide +kernel), meets (by decide +kernel), meets (by decide +kernel)⟩

/-- A CLEAR_CONDITIONS whose reply finds room, and one whose reply is dropped; REPLY_LOST and INPUT_CHANGE in its mask. -/
theorem witness_ClearConditionsClearsMask :
    (let f := exFrame 7#8 241#8 17#8 [0x00000208#32]
     let s := withFrames [f] (exT.setCondition { exT.condition with latches := 0x0201#14 })
     Meets s (decide (Admitted .clearConditions f [] s))
      ∧ (let u := withFrames [f] (exFull true)
         Meets u (decide (Admitted .clearConditions f [] u ∧ DropsReply f u)))) :=
  ⟨meets (by decide +kernel), meets (by decide +kernel)⟩

theorem witness_HoldAndRelease :
    (let f := exFrame 8#8 241#8 17#8 [0x0E110000#32]
     let s := withFrames [f] exT
     Meets s (decide (Admitted .hold f [] s)))
    ∧ (let f := exFrame 9#8 241#8 17#8 []
       let s (m : Mode) := withFrames [f] (exIn m)
       Meets (s .hold) (decide (Admitted .release f [] (s .hold)))
        ∧ Meets (s .running) (decide (Admitted .release f [] (s .running)))) :=
  ⟨meets (by decide +kernel), meets (by decide +kernel), meets (by decide +kernel)⟩

theorem witness_ForgetRemovesEntry :
    (let f := exFrame 10#8 241#8 17#8 [0x2A000000#32]
     let s (age : Nat) := withFrames [f] (ex42 age)
     Meets (s 0) (decide (Admitted .forget f [] (s 0)))
      ∧ Meets (s 30) (decide (Admitted .forget f [] (s 30)))) :=
  ⟨meets (by decide +kernel), meets (by decide +kernel)⟩

theorem witness_ReadsAnswered :
    (let f := exFrame 13#8 241#8 17#8 []
     let s := withFrames [f] exT
     Meets s (decide (Admitted .readCounters f [] s)))
    ∧ (let f (g : Group) := exFrame 12#8 241#8 17#8 [g]
       let s (g : Group) := withFrames [f g] (ex42 0)
       Meets (s 0x2A000000#32) (decide (Admitted .readView (f 0x2A000000#32) [] (s 0x2A000000#32)))
        ∧ Meets (s 0x11000000#32) (decide (Admitted .readView (f 0x11000000#32) [] (s 0x11000000#32))))
    ∧ (let f := exFrame 12#8 241#8 5#8 [0x05000000#32]
       let s := withFrames [f] exP
       Meets s (decide (Admitted .readView f [] s)))
    ∧ (let f := exFrame 12#8 241#8 17#8 [0x2A000000#32]
       let s := withFrames [f] (withPeers [exPlant 42 900 .inSector .fresh 0] exT)
       Meets s (decide (Admitted .readView f [] s))) :=
  ⟨meets (by decide +kernel), ⟨meets (by decide +kernel), meets (by decide +kernel)⟩, meets (by decide +kernel),
    meets (by decide +kernel)⟩

/-- Two seconds and one second to go, with and without a successor, in each block mode; sheds with two and one. -/
theorem witness_LimitTimersCountDown :
    (let s (a : ActiveBlock) (p : Option Block) (x : ShedState) := exT.setLimit
        { active := a
          pendingBlock := p
          shed := x
          blockTimer := if a.isRunning = true then .running 10 else .stopped
          shedTimer := if x = .off then .stopped else .running 10 }
     Meets (s (.running ⟨500, 60, .single⟩ 2) none (.inForce 1 2)) true
      ∧ Meets (s (.running ⟨500, 60, .single⟩ 1) (some ⟨300, 1, .chain⟩) (.inForce 0 1)) true
      ∧ Meets (s (.running ⟨500, 60, .repeating⟩ 1) none .off) true
      ∧ Meets (s (.running ⟨500, 60, .single⟩ 1) none .off) true
      ∧ Meets (s (.running ⟨500, 60, .chain⟩ 1) none .off)
          (decide ((s (.running ⟨500, 60, .chain⟩ 1) none .off).limit.pendingBlock = none))
      ∧ Meets (s (.held ⟨500, 60, .chain⟩) none .off) true) :=
  ⟨meets (by decide +kernel), meets (by decide +kernel), meets (by decide +kernel), meets (by decide +kernel),
    meets (by decide +kernel), meets (by decide +kernel)⟩

/-- A RESTART finding room, a waiting REPORT to displace, and neither; its reply sent, abandoned and displaced. -/
theorem witness_RestartTakesEffectWhenReplyLeaves :
    (let f := exFrame 11#8 241#8 17#8 []
     let report : State := exSending .busy 0 (exReply false)
      [.report none, exReply false, exReply false, exReply false, exReply false]
     let hyps (s : State) := Meets (withFrames [f] s)
      (decide (Admitted .restart f [] (withFrames [f] s)))
     hyps exT ∧ hyps report ∧ report.line.waiting.any TxEntry.isReport = true ∧ report.line.txCount = 6
      ∧ hyps (exFull false) ∧ (exFull false).line.txCount = 6)
    ∧ Meets (exSending .ownTransmit 0 (exReply true) []) true ∧ Meets (exSending .jam 8 (exReply true) []) true
    ∧ (let s : State := ((exIn .hold).setLine (exFull true).line).setControl
          { (exIn .hold).control with descriptor := some { exD with urgentMask := 0x000400#24 } }
       Meets s (decide (s.control.mode = .hold ∧ s.urgent .holdExpired = true ∧ s.latched .holdExpired = false
        ∧ s.line.holdsAlarm = false ∧ s.line.txCount = 6
        ∧ s.line.waiting = [exReply false, exReply false, exReply false, exReply false] ++ [exReply true]))) :=
  ⟨⟨meets (by decide +kernel), meets (by decide +kernel), by decide +kernel, by decide +kernel,
    meets (by decide +kernel), by decide +kernel⟩, meets (by decide +kernel), meets (by decide +kernel),
    meets (by decide +kernel)⟩

/-- The interval timer absorbed and not, with the queue accepting and refusing; the spacing timer with and without
report-due; both stopped. -/
theorem witness_ReportTimers :
    (let with_ (s : State) (due : Bool) := s.setReports { s.reports with
        reportDue := due
        intervalTimer := .running 50
        spacingTimer := .running 10 }
     Meets (with_ (exSending .busy 0 (.report none) []) false)
        (decide ((with_ (exSending .busy 0 (.report none) []) false).line.absorbsReport = true))
      ∧ Meets (with_ exT true) (decide ((with_ exT true).line.absorbsReport = false))
      ∧ Meets (with_ (exFull false) true) true ∧ Meets (with_ exT false) true)
    ∧ Meets exT (decide (exT.reports.intervalTimer.isRunning = false ∧ exT.reports.spacingTimer.isRunning = false)) :=
  ⟨⟨meets (by decide +kernel), meets (by decide +kernel), meets (by decide +kernel), meets (by decide +kernel)⟩,
    meets (by decide +kernel)⟩

/-- A complete record of each role's set; an incomplete one; a station before JOINING. -/
theorem witness_SampleRecordMovesFields :
    Meets exT (decide (exT.active = true ∧ (0x55#8 :: 1#8 :: List.replicate 18 0#8).length = 20))
      ∧ Meets exP (decide (exP.isPlant = true ∧ (0x55#8 :: 2#8 :: List.replicate 15 0#8).length = 17))
      ∧ Meets exU (decide (exU.active = false))
      ∧ Meets (exMeasured .running (some 3000) none none (some 10000) none false false)
          (decide ((exMeasured .running (some 3000) none none (some 10000) none false false).measure.fields.dp.state
            = .good)) :=
  ⟨meets (by decide +kernel), meets (by decide +kernel), meets (by decide +kernel), meets (by decide +kernel)⟩

theorem witness_SampleAndHoldTimers :
    (let s := exMeasured .running (some 3000) none none (some 10000) none false false
     Meets s (decide (s.measure.sampleTimer.isRunning = true)))
    ∧ (let s := exT.setMeasure { exT.measure with
          sampleTimer := .stopped
          fields := { exT.measure.fields with dp := ⟨some 1200, .held, .running 150⟩ }
          dpf := some 1200 }
       Meets s (decide (s.measure.sampleTimer.isRunning = false
        ∧ (s.measure.fields.get .dp).state = .held ∧ (s.measure.fields.get .ts).state ≠ .held)))
    ∧ (let s := (exP.setMeasure { exP.measure with
          fields := { exP.measure.fields with qavail := ⟨some 20000, .held, .running 150⟩ } }).setHead
            { exP.head with offer := 15000, offerBasis := some 20000 }
       Meets s (decide ((s.measure.fields.get .qavail).state = .held))) :=
  ⟨meets (by decide +kernel), meets (by decide +kernel), meets (by decide +kernel)⟩

/-- An input not watched, one that starts its timer, one that stops it, one recognised at once with debounce 0. -/
theorem witness_InputChangesAreDebounced :
    Meets exU (decide (exU.active = false ∧ (exU.measure.inputs.get .in0).raw = .low))
      ∧ Meets exT (decide ((exT.measure.inputs.get .in0).raw = .low))
      ∧ (let s := exT.setMeasure { exT.measure with
            inputs := { exT.measure.inputs with in0 := ⟨.high, false, .running 2, false⟩ } }
         Meets s (decide ((s.measure.inputs.get .in0).debounceTimer.isRunning = true)))
      ∧ (let s := exT.setControl { exT.control with descriptor := some { exD with debounce := 0 } }
         Meets s (decide (s.config.debounce = 0)))
      ∧ (let s := exP.setMeasure { exP.measure with
            inputs := { exP.measure.inputs with in0 := ⟨.high, false, .running 2, false⟩ } }
         Meets s (decide (s.isPlant = true))) :=
  ⟨meets (by decide +kernel), meets (by decide +kernel), meets (by decide +kernel), meets (by decide +kernel),
    meets (by decide +kernel)⟩

/-- The line in each of its states, with and without a frame in progress; the silence timer running and stopped. -/
theorem witness_LineEvents :
    (let s (l : LineState) (r : Receiver) := exT.setLine { exT.line with
        lineState := l
        receiver := r }
     Meets (s .idle .testing) (decide ((s .idle .testing).active = true)) ∧ Meets (s .busy .testing) true
      ∧ Meets (s .busy .skipping) true
      ∧ Meets (s .busy (.gathering [])) (decide
          ((s .busy (.gathering [])).line.receiver.inFrame = true)))
    ∧ Meets (exSending .jam 1 (.report none) []) (decide ((exSending .jam 1 (.report none) []).line.lineState
        ≠ .busy))
    ∧ Meets exU (decide (exU.active = false)) ∧ Meets exT (decide (exT.line.silenceTimer.isRunning = true))
    ∧ Meets (exT.setLine { exT.line with
        isolated := true
        silenceTimer := .stopped }) true :=
  ⟨⟨meets (by decide +kernel), meets (by decide +kernel), meets (by decide +kernel), meets (by decide +kernel)⟩,
    meets (by decide +kernel), meets (by decide +kernel), meets (by decide +kernel), meets (by decide +kernel)⟩

/-- The station gathering a frame, of which the given groups are there. -/
def exGathering (groups : List Group) (frames : List Frame) : State :=
  exT.setLine { exT.line with
    receiver := .gathering groups
    rxQueue := frames }

/-- The first group, a middle one, a damaged one, an invalid header, and frames that end: for another station, of a kind
out of the table, a REPLY, one with room and one without. -/
theorem witness_GroupsMakeFrames :
    (Meets (exGathering [] []) true ∧ GathersTo (exGathering [] []) (sentGroup 5#32) false [5#32])
    ∧ (Meets (exGathering [0x11F10803#32] []) true
      ∧ GathersTo (exGathering [0x11F10803#32] []) (RawGroup.hit 38 (sentGroup 0x0C000101#32)) true
          [0x11F10803#32, 0x0C000101#32])
    ∧ decodeGroup ⟨0#8, 0#8, 0#8, 0#8, 0x80#8, false⟩ = .damaged
    ∧ (Meets (exGathering [0x11000803#32] []) true
      ∧ GathersTo (exGathering [0x11000803#32] []) (sentGroup 0#32) false [0x11000803#32, 0#32])
    ∧ GathersTo (exGathering [0x11F10803#32] []) (sentGroup 0x0D000101#32) false [0x11F10803#32, 0x0D000101#32]
    ∧ (∀ h1 ∈ [0x12F10903#32, 0x11F10E03#32, 0x11F10303#32, 0x11F10903#32], GathersTo (exGathering [h1] [])
        (sentGroup 0x00000101#32) false [h1, 0x00000101#32])
    ∧ Meets (exGathering [0x11F10903#32] (List.replicate 8 (exFrame 9#8 241#8 17#8 [])))
        (decide ((exGathering [0x11F10903#32] (List.replicate 8 (exFrame 9#8 241#8 17#8 []))).line.rxQueue.length
          = 8)) := by
  refine ⟨⟨meets (by decide +kernel), ?_⟩, ⟨meets (by decide +kernel), ?_⟩, by decide +kernel,
    ⟨meets (by decide +kernel), ?_⟩, ?_, ?_, meets (by decide +kernel)⟩
  · exact ⟨[], _, rfl, rfl, by decide +kernel⟩
  · exact ⟨[0x11F10803#32], _, rfl, rfl, by decide +kernel⟩
  · exact ⟨[0x11000803#32], _, rfl, rfl, by decide +kernel⟩
  · exact ⟨[0x11F10803#32], _, rfl, rfl, by decide +kernel⟩
  · intro h1 _
    exact ⟨[h1], _, rfl, rfl, by decide +kernel⟩

/-- Each kind of entry, before and after its first attempt start, on an IDLE line; and a line that is BUSY. -/
theorem witness_AttemptStartSendsFrame :
    Meets (exSending .idle 0 (.report none) []) true
      ∧ Meets (exSending .idle 7 (.report (some (255#8, true))) []) true
      ∧ Meets (exSending .idle 0 (.alarm none) []) true ∧ Meets (exSending .idle 1 (.alarm (some 255#8)) []) true
      ∧ Meets (exSending .idle 0 (exReply true) []) true ∧ Meets (exSending .busy 0 (exReply true) []) true
      ∧ Meets exT (decide (exT.line.inFlight = none)) :=
  ⟨meets (by decide +kernel), meets (by decide +kernel), meets (by decide +kernel), meets (by decide +kernel),
    meets (by decide +kernel), meets (by decide +kernel), meets (by decide +kernel)⟩

theorem witness_CollisionJamsAndRetries :
    Meets (exSending .ownTransmit 7 (.report (some (0#8, true))) []) true ∧ Meets exT true
      ∧ (let s := exSending .jam 7 (.report (some (0#8, true))) []
         Meets s (decide (s.line.lineState = .jam ∧ s.line.attempts < 8))) :=
  ⟨meets (by decide +kernel), meets (by decide +kernel), meets (by decide +kernel)⟩

/-- Departures with an empty queue, with five waiting and both offers due, and after the eighth attempt; urgent and not. -/
theorem witness_DepartureFreesLine :
    (let due (s : State) := (s.setReports { s.reports with reportDue := true }).setCondition
        { s.condition with alarmDue := true }
     let hyps (s : State) := Meets s (decide (s.line.inFlight.any (fun e => !e.marked) = true))
     let five := exFive false
     let urgent (s : State) := s.setControl
        { exT.control with descriptor := some { exD with urgentMask := 0x000004#24 } }
     hyps (exSending .ownTransmit 0 (exReply false) []) ∧ hyps (exSending .busy 0 (exReply false) [])
      ∧ hyps (due (exSending .ownTransmit 0 (.alarm (some 0#8)) five))
      ∧ hyps (due (exSending .ownTransmit 0 (.alarm (some 0#8)) []))
      ∧ hyps (exSending .jam 8 (exReply false) five)
      ∧ hyps (urgent (exSending .jam 8 (exReply false) five))
      ∧ hyps (urgent (exSending .jam 8 (exReply false) (.alarm none :: five.take 4)))
      ∧ hyps (urgent ((exSending .jam 8 (exReply false) (exFive true)).setReports
          { exT.reports with reportDue := true }))
      ∧ hyps (urgent (exSending .jam 8 (exReply false) (.report none :: (exFive false).drop 1)))
      ∧ hyps (urgent (exSending .jam 8 (exReply false) (exFive true)))) :=
  ⟨meets (by decide +kernel), meets (by decide +kernel), meets (by decide +kernel), meets (by decide +kernel),
    meets (by decide +kernel), meets (by decide +kernel), meets (by decide +kernel), meets (by decide +kernel),
    meets (by decide +kernel), meets (by decide +kernel)⟩

/-- R43, R157, R160: a REPLY abandoned with five entries waiting, the first of them a REPORT, TX_ABANDON urgent. After the
departure its ALARM finds room and the REPORT stays; before it the ALARM displaces the REPORT, which the departure offers
again. Before the departure it displaces the newest waiting REPLY where no REPORT waits, and a RESTART marked there
resets. -/
theorem test_abandon_orders :
    (let t (choice : ChoiceOrder) (waiting : List TxEntry) :=
      after (.jamEnd choice .alarmFirst) ((exSending .jam 8 (exReply false) waiting).setControl
        { exT.control with descriptor := some { exD with urgentMask := 0x000004#24 } })
     let u (choice : ChoiceOrder) (waiting : List TxEntry) :=
      let v := t choice waiting
      (v.line.inFlight, v.line.waiting, v.reports.intervalTimer, v.line.repliesLost, v.control.mode)
     [u .offersFirst (.report none :: (exFive false).drop 1), u .latchFirst (.report none :: (exFive false).drop 1),
      u .offersFirst (exFive false), u .latchFirst (exFive false)])
      = [(some (.alarm none), .report none :: (exFive false).drop 1, exT.reports.intervalTimer, 0, .running),
         (some (.alarm none), (exFive false).drop 1 ++ [.report none], .running 50, 0, .running),
         (some (.alarm none), exFive false, exT.reports.intervalTimer, 0, .running),
         (some (.alarm none), (exFive false).drop 1, exT.reports.intervalTimer, 1, .running)] := by decide +kernel

/-- Syndromes 0, 1, 38 and 39, with the overall parity holding and failing, and an eighth bit of 1. -/
theorem witness_CheckCharacterFollowsTable :
    (let hyps (raw : RawGroup) (syndrome : Nat) := raw.framingError = false ∧ syndrome < 64
      ∧ ∀ i, i < 6 → syndrome.testBit i
          = decide (onesAt (byteGroup raw.c1 raw.c2 raw.c3 raw.c4) raw.check i % 2 = 1)
     hyps ⟨0#8, 0#8, 0#8, 0#8, 0x00#8, false⟩ 0 ∧ hyps ⟨0#8, 0#8, 0#8, 0#8, 0x40#8, false⟩ 0
      ∧ hyps ⟨0#8, 0#8, 0#8, 0#8, 0x01#8, false⟩ 1 ∧ hyps ⟨0#8, 0#8, 0#8, 0#8, 0x26#8, false⟩ 38
      ∧ hyps ⟨0#8, 0#8, 0#8, 0#8, 0x67#8, false⟩ 39 ∧ hyps ⟨0#8, 0#8, 0#8, 0#8, 0x27#8, false⟩ 39
      ∧ hyps ⟨0#8, 0#8, 0#8, 0#8, 0x80#8, false⟩ 0) := by decide +kernel

theorem witness_SingleErrorsCorrectedDoubleDetected : 0 < 39 ∧ 38 < 39 ∧ (0 : Nat) ≠ 38
    ∧ (⟨0#8, 0#8, 0#8, 0#8, 0#8, true⟩ : RawGroup).framingError = true := by decide

/-- A frame with no body and one with twelve groups, for this station and for all. -/
theorem witness_FrameSentIsFrameReceived :
    (let s (f : Frame) : State := { exT with
        line := { exT.line with
          lineState := .idle
          receiver := .testing }
        pending := frameEvents f }
     let hyps (f : Frame) := Meets (s f) (decide ((s f).active = true ∧ (s f).line.receiver = .testing
      ∧ f.source ≠ 0#8 ∧ f.source ≠ 255#8 ∧ f.groupCount.toNat = f.body.length ∧ f.body.length ≤ 12
      ∧ 1 ≤ f.kind.toNat ∧ f.kind.toNat ≤ 13 ∧ f.kind ≠ 3#8
      ∧ (f.destination.toNat = (s f).config.number ∨ f.destination = 255#8) ∧ (s f).line.rxQueue.length < 8))
     hyps (exFrame 13#8 254#8 17#8 []) ∧ hyps (exFrame 1#8 1#8 255#8 (List.replicate 12 0x12345678#32))) :=
  ⟨meets (by decide +kernel), meets (by decide +kernel)⟩

theorem witness_ReportReadBack :
    Meets exT (decide (exT.speaking = true ∧ exT.isTransfer = true))
      ∧ Meets (exPlantIn .hold) (decide ((exPlantIn .hold).speaking = true ∧ (exPlantIn .hold).isPlant = true)) :=
  ⟨meets (by decide +kernel), meets (by decide +kernel)⟩

theorem witness_LatchesStayUntilCleared :
    (let s := (exIn .hold).setCondition { exT.condition with latches := 0x2001#14 }
     ∃ t, exec .holdTimerExpiry s = .next t ∧ s.latched .rxOverrun = true ∧ s.latched .shedReceived = true) :=
  ⟨_, rfl, by decide +kernel, by decide +kernel⟩

theorem witness_CountersSaturate :
    (let s := exT.setLine { exT.line with collisions := 65535 }
     Meets s (decide (s.counters.getD 4 0 = 65535)) ∧ ∃ t, exec (.breakDetected false) s = .next t) :=
  ⟨meets (by decide +kernel), _, rfl⟩

theorem witness_EventsOutOfPlaceDoNothing :
    Meets exU (decide (exU.line.rxQueue = [] ∧ exU.isTransfer = false ∧ exU.isPlant = false
      ∧ exU.readInProgress = false ∧ commandEvent .alarmFirst .hold = some .hold))
    ∧ (let s := withFrames [exFrame 9#8 241#8 17#8 []] exT
       Meets s (decide (∀ f ∈ s.line.rxQueue.head?, f.kind ≠ 1#8 ∧ f.kind ≠ 2#8 ∧ f.kind ≠ Kind.hold.code))) :=
  ⟨meets (by decide +kernel), meets (by decide +kernel)⟩

end Sys2Proof.Tests
end

section
/-! The twelve counters of R3 in every event. Up to its end an event moves a counter by `countUp` or leaves it
(`CountersGrow`); at its end it leaves them all or resets the station (`CountersKept`). -/

namespace Sys2Proof.Machine

/-! ### Counts that grow within their bound -/

/-- A count within its bound stays there and does not come down (R3). -/
def Grows (m n : Nat) : Prop := m ≤ 65535 → m ≤ n ∧ n ≤ 65535

@[simp] theorem Grows.refl (n : Nat) : Grows n n := fun h => ⟨le_rfl, h⟩

theorem Grows.trans {l m n : Nat} (h : Grows l m) (h' : Grows m n) : Grows l n := fun hl =>
  have ⟨hlm, hm⟩ := h hl
  have ⟨hmn, hn⟩ := h' hm
  ⟨hlm.trans hmn, hn⟩

@[simp] theorem grows_countUp (n : Nat) : Grows n (countUp n) := by
  intro h
  simp only [countUp, Config.counterMax]
  omega

/-- Each of the twelve counters grows within its bound, or stands. -/
def CountersGrow (s t : State) : Prop := ∀ k, Grows (s.counters.getD k 0) (t.counters.getD k 0)

/-- Transitivity, the later operation first, as a state that several operations make is written. -/
theorem CountersGrow.after {s t u : State} (h' : CountersGrow t u) (h : CountersGrow s t) : CountersGrow s u :=
  fun k => (h k).trans (h' k)

theorem CountersGrow.of_eq {s t : State} (h : t.counters = s.counters) : CountersGrow s t := fun k => by
  rw [h]
  exact .refl _

theorem CountersGrow.refl (s : State) : CountersGrow s s := .of_eq rfl

/-- Two lists that are related element by element are related at every place, past their end by their default. -/
theorem forall₂_getD {α : Type} {r : α → α → Prop} {a b : List α} {d : α} (h : List.Forall₂ r a b)
    (hd : r d d) (k : Nat) : r (a.getD k d) (b.getD k d) := by
  induction h generalizing k with
  | nil => exact hd
  | cons hab _ ih =>
    cases k with
    | zero => exact hab
    | succ k => exact ih k

theorem CountersGrow.of_forall₂ {s t : State} (h : List.Forall₂ Grows s.counters t.counters) : CountersGrow s t :=
  forall₂_getD h (.refl 0)

/-! ### Operations that leave every counter as it stands -/

section Frames
variable (s : State)

@[simp] theorem setControl_counters (b : StationControl) : (s.setControl b).counters = s.counters := rfl
@[simp] theorem setReports_counters (b : ReportScheduler) : (s.setReports b).counters = s.counters := rfl
@[simp] theorem setShare_counters (b : ShareEngine) : (s.setShare b).counters = s.counters := rfl
@[simp] theorem setLimit_counters (b : LimitUnit) : (s.setLimit b).counters = s.counters := rfl
@[simp] theorem setValve_counters (b : ValveLoop) : (s.setValve b).counters = s.counters := rfl
@[simp] theorem setHead_counters (b : HeadResetUnit) : (s.setHead b).counters = s.counters := rfl
@[simp] theorem setMeasure_counters (b : MeasurementUnit) : (s.setMeasure b).counters = s.counters := rfl
@[simp] theorem setCondition_counters (b : ConditionUnit) : (s.setCondition b).counters = s.counters := rfl
@[simp] theorem sendDrive_counters (r : List Byte) : (s.sendDrive r).counters = s.counters := rfl
@[simp] theorem setEntries_counters (es : List PeerEntry) : (setEntries es s).counters = s.counters := rfl
@[simp] theorem markLatch_counters (l : Latch) : (markLatch l s).counters = s.counters := rfl
@[simp] theorem setAlarmDue_counters (due : Bool) : (setAlarmDue due s).counters = s.counters := rfl
@[simp] theorem setReportDue_counters (due : Bool) : (setReportDue due s).counters = s.counters := rfl
@[simp] theorem noteDeparture_counters (e : TxEntry) : (noteDeparture e s).counters = s.counters := rfl
@[simp] theorem enqueue_counters (e : TxEntry) : (enqueue e s).counters = s.counters := rfl
@[simp] theorem setInput_counters (i : InputName) (v : Input) : (setInput i v s).counters = s.counters := rfl
@[simp] theorem clearInFlight_counters : (clearInFlight s).counters = s.counters := rfl
@[simp] theorem takeComputation_counters : (takeComputation s).counters = s.counters := rfl
@[simp] theorem sendFrame_counters (e : TxEntry) (f : Frame) : (sendFrame e f s).counters = s.counters := rfl

@[simp] theorem displaceReport_counters (others : List TxEntry) (e : TxEntry) :
    (displaceReport others e s).counters = s.counters := by
  simp [State.counters]

@[simp] theorem arbitrate_counters : (arbitrate s).counters = s.counters := by
  simp [State.counters]

@[simp] theorem queueReport_counters : (queueReport s).counters = s.counters := by
  simp [State.counters]

@[simp] theorem shareTrigger_counters : (shareTrigger s).counters = s.counters := by
  simp [State.counters]

@[simp] theorem recomputeOffer_counters : (recomputeOffer s).counters = s.counters := by
  simp [State.counters]

@[simp] theorem noticeIf_counters (b : Bool) : (noticeIf b s).counters = s.counters := by
  cases b <;> simp [noticeIf]

@[simp] theorem changeTrigger_counters : (changeTrigger s).counters = s.counters := by
  unfold changeTrigger
  split <;> simp

@[simp] theorem forgetEntry_counters (number : Nat) : (forgetEntry number s).counters = s.counters := by
  unfold forgetEntry
  split <;> simp

@[simp] theorem answerPublication_counters : (answerPublication s).counters = s.counters := by
  unfold answerPublication
  split <;> simp

@[simp] theorem publish_counters (order : GrantOrder) : (publish order s).counters = s.counters := by
  cases order <;> simp [publish]

@[simp] theorem computeBeforeEnd_counters (order : GrantOrder) :
    (computeBeforeEnd order s).counters = s.counters := by
  cases order <;> simp [computeBeforeEnd]

@[simp] theorem chooseCritical_counters : (chooseCritical s).counters = s.counters := by
  unfold chooseCritical
  split <;> simp

@[simp] theorem startAttempt_counters (e : TxEntry) : (startAttempt e s).counters = s.counters := by
  unfold startAttempt
  split <;> simp [numberReport]

@[simp] theorem enterJoining_counters (l : Loaded) : (enterJoining l s).counters = s.counters := by
  unfold enterJoining
  dsimp only
  split <;> rfl

@[simp] theorem clearConditions_counters (mask : BitVec 24) : (clearConditions mask s).counters = s.counters := by
  unfold clearConditions clearChangeLatches
  dsimp only
  split <;> rfl

@[simp] theorem limitBlockEffect_counters (f : Frame) : (limitBlockEffect f s).counters = s.counters := by
  unfold limitBlockEffect
  split <;> simp

@[simp] theorem limitCancelEffect_counters (f : Frame) : (limitCancelEffect f s).counters = s.counters := rfl

@[simp] theorem noEffect_counters (f : Frame) : (noEffect f s).counters = s.counters := rfl

@[simp] theorem enterHold_counters (duration : Nat) : (enterHold duration s).counters = s.counters := rfl

@[simp] theorem releaseHold_counters : (releaseHold s).counters = s.counters := by
  unfold releaseHold
  split <;> simp

/-- Taking the frame at the front leaves the counters as they stand (R156). -/
theorem takeFront_counters {p : Frame → Bool} {s t : State} {f : Frame} (h : takeFront p s = some (f, t)) :
    t.counters = s.counters := by
  unfold takeFront at h
  split at h
  · exact nomatch h
  · split at h
    · obtain ⟨-, rfl⟩ := by simpa using h
      rfl
    · exact nomatch h

end Frames

/-! ### Shared operations that may count -/

section Shared
variable (s : State)

theorem countReplyLost_countersGrow : CountersGrow s (countReplyLost s) :=
  .of_forall₂ (by simp [State.counters, countReplyLost])

theorem countCorrected_countersGrow (corrected : Bool) : CountersGrow s (countCorrected corrected s) := by
  cases corrected
  · exact .refl s
  · exact .of_forall₂ (by simp [State.counters, countCorrected])

theorem countDuplicate_countersGrow : CountersGrow s (countDuplicate s) :=
  .of_forall₂ (by simp [State.counters, countDuplicate])

theorem countOutOfOrder_countersGrow : CountersGrow s (countOutOfOrder s) :=
  .of_forall₂ (by simp [State.counters, countOutOfOrder])

theorem countAccepted_countersGrow : CountersGrow s (countAccepted s) :=
  .of_forall₂ (by simp [State.counters, countAccepted])

theorem countRefused_countersGrow : CountersGrow s (countRefused s) :=
  .of_forall₂ (by simp [State.counters, countRefused])

theorem arbitrate_countersGrow : CountersGrow s (arbitrate s) := .of_eq (arbitrate_counters s)

theorem queueReport_countersGrow : CountersGrow s (queueReport s) := .of_eq (queueReport_counters s)

/-- An offered ALARM counts the REPLY it displaces and nothing else (R157). -/
theorem offerAlarm_countersGrow : CountersGrow s (offerAlarm s) := by
  unfold offerAlarm
  split
  · exact .of_eq (by simp)
  · split
    · exact .of_eq (by simp)
    · split
      · exact .of_forall₂ (by simp [State.counters, countReplyLost])
      · exact .refl s

/-- Setting a latch counts at most what the ALARM it calls for counts (R148). -/
theorem setLatch_countersGrow (l : Latch) : CountersGrow s (setLatch l s) := by
  have hspeaking : CountersGrow s (if s.line.absorbsAlarm then markLatch l s
      else if s.line.holdsAlarm then setAlarmDue true (markLatch l s) else offerAlarm (markLatch l s)) := by
    split
    · exact .of_eq rfl
    · split
      · exact .of_eq rfl
      · exact (offerAlarm_countersGrow _).after (.of_eq rfl)
  unfold setLatch
  split
  · exact .refl s
  · split
    · cases s.control.mode with
      | running | hold => exact hspeaking
      | joining | starting | unconfigured => exact .of_eq rfl
    · exact .of_eq rfl

/-- An offered REPLY that finds no place is counted as lost (R157). -/
theorem offerReply_countersGrow (r : Reply) : CountersGrow s (offerReply r s) := by
  unfold offerReply
  split
  · exact .of_eq (by simp)
  · split
    · exact .of_eq (by simp)
    · exact (CountersGrow.of_eq (noteDeparture_counters _ _)).after
        ((setLatch_countersGrow _ _).after (countReplyLost_countersGrow s))

theorem replyTo_countersGrow (f : Frame) (restart : Bool) (body : List Group) :
    CountersGrow s (replyTo f restart body s) := by
  unfold replyTo
  split
  · exact .refl s
  · exact offerReply_countersGrow s _

theorem offerDueAlarm_countersGrow : CountersGrow s (offerDueAlarm s) := by
  unfold offerDueAlarm
  split
  · exact (offerAlarm_countersGrow _).after (.of_eq rfl)
  · exact .refl s

theorem recogniseChange_countersGrow (i : InputName) : CountersGrow s (recogniseChange i s) := by
  unfold recogniseChange
  dsimp only
  split
  · exact (CountersGrow.of_eq (recomputeOffer_counters _)).after ((setLatch_countersGrow _ _).after (.of_eq rfl))
  · exact .of_eq (by simp)

theorem rawChanged_countersGrow (i : InputName) : CountersGrow s (rawChanged i s) := by
  unfold rawChanged
  dsimp only
  split
  · exact .of_eq rfl
  · split
    · exact recogniseChange_countersGrow s i
    · exact .of_eq rfl

end Shared

/-! ### The events, up to their end -/

section Events
variable (s : State)

theorem watchInput_countersGrow (i : InputName) : CountersGrow s (watchInput i s) := by
  unfold watchInput
  split
  · exact rawChanged_countersGrow s i
  · exact .refl s

theorem leaveStarting_countersGrow (l : Loaded) : CountersGrow s (leaveStarting l s) := by
  have latchIf (b : Bool) (k : Latch) (t : State) : CountersGrow t (if b = true then setLatch k t else t) := by
    cases b
    · exact .refl t
    · exact setLatch_countersGrow t k
  have hwatch (t : State) : CountersGrow t (watchInputs t) :=
    (watchInput_countersGrow _ _).after
      ((watchInput_countersGrow _ _).after ((watchInput_countersGrow _ _).after (watchInput_countersGrow t _)))
  exact (hwatch _).after ((latchIf _ _ _).after ((latchIf _ _ _).after (.of_eq (enterJoining_counters s l))))

theorem descriptorReadComplete_countersGrow (bytes : List Byte) :
    CountersGrow s (descriptorReadComplete bytes s) := by
  unfold descriptorReadComplete
  split
  · split
    · exact leaveStarting_countersGrow s _
    · exact .of_eq rfl
  · exact .refl s

theorem resetPinRelease_countersGrow (pins : StrapPins) : CountersGrow s (resetPinRelease pins s) := by
  unfold resetPinRelease
  split <;> exact .of_eq rfl

theorem safeRecordTimerExpiry_countersGrow : CountersGrow s (safeRecordTimerExpiry s) := by
  unfold safeRecordTimerExpiry
  split <;> exact .of_eq rfl

theorem joinTimerExpiry_countersGrow (order : OfferOrder) : CountersGrow s (joinTimerExpiry order s) := by
  unfold joinTimerExpiry
  split
  · cases order
    · exact (queueReport_countersGrow _).after
        ((arbitrate_countersGrow _).after ((offerDueAlarm_countersGrow _).after (.of_eq rfl)))
    · exact (offerDueAlarm_countersGrow _).after (.of_eq (by simp))
  · exact .refl s

theorem holdTimerExpiry_countersGrow : CountersGrow s (holdTimerExpiry s) := by
  unfold holdTimerExpiry
  split
  · exact (setLatch_countersGrow _ _).after (.of_eq rfl)
  · exact .refl s

theorem valvePeriodExpiry_countersGrow (order : GrantOrder) : CountersGrow s (valvePeriodExpiry order s) := by
  unfold valvePeriodExpiry
  split
  · exact .of_eq (by simp [valveDrive, stagesFourToSix, stagesOneToThree])
  · exact .refl s

theorem headPeriodExpiry_countersGrow : CountersGrow s (headPeriodExpiry s) := by
  unfold headPeriodExpiry
  split
  · exact .of_eq (by simp [headDrive, moveHead])
  · exact .refl s

theorem shareComputation_countersGrow : CountersGrow s (shareComputation s) := by
  unfold shareComputation
  split <;> exact .of_eq rfl

theorem ageTimerExpiry_countersGrow (number : Nat) : CountersGrow s (ageTimerExpiry number s) := by
  unfold ageTimerExpiry
  split
  · split
    · exact .of_eq (by simp)
    · exact .refl s
  · exact .refl s

/-- A well-formed report is counted as a duplicate, out of order or refused, or as nothing (R14 to R16, R24). -/
theorem placeReport_countersGrow (number : Nat) (f : Frame) (b : ReportBody) :
    CountersGrow s (placeReport number f b s) := by
  have haccept (e : PeerEntry) (count : Nat) : CountersGrow s (acceptInto e count f b s) :=
    .of_eq (by simp [acceptInto])
  have hcreate (es : List PeerEntry) : CountersGrow s (createIn es number f b s) := .of_eq (by simp [createIn])
  have hrefuse : CountersGrow s (refuseReport s) :=
    (setLatch_countersGrow _ _).after (.of_forall₂ (by simp [State.counters]))
  unfold placeReport
  split
  · split
    · exact haccept _ _
    · split
      · exact haccept _ _
      · dsimp only
        split
        · exact countDuplicate_countersGrow s
        · split
          · exact haccept _ _
          · exact countOutOfOrder_countersGrow s
  · split
    · exact hcreate _
    · split
      · exact hcreate _
      · exact hrefuse

theorem takeReport_countersGrow (f : Frame) : CountersGrow s (takeReport f s) := by
  unfold takeReport
  dsimp only
  split
  · exact setLatch_countersGrow s _
  · split
    · exact .refl s
    · split
      · exact placeReport_countersGrow s _ f _
      · exact .refl s

theorem takeStationReport_countersGrow : CountersGrow s (takeStationReport s) := by
  unfold takeStationReport
  split
  next hf => exact (takeReport_countersGrow _ _).after (.of_eq (takeFront_counters hf))
  next => exact .refl s

theorem takeAlarm_countersGrow (f : Frame) : CountersGrow s (takeAlarm f s) := by
  unfold takeAlarm
  dsimp only
  split
  · exact setLatch_countersGrow s _
  · split <;> exact .of_eq rfl

theorem takeAlarmFrame_countersGrow : CountersGrow s (takeAlarmFrame s) := by
  unfold takeAlarmFrame
  split
  next hf => exact (takeAlarm_countersGrow _ _).after (.of_eq (takeFront_counters hf))
  next => exact .refl s

theorem takeShed_countersGrow (threshold duration : Nat) : CountersGrow s (takeShed threshold duration s) := by
  unfold takeShed
  split
  · exact .of_eq rfl
  · split
    · exact (setLatch_countersGrow _ _).after (.of_eq rfl)
    · exact .of_eq rfl

/-- An admitted command adds its effect, its counter and its reply (R164). -/
theorem admitCommand_countersGrow {kind : Kind} {effect : Frame → State → State}
    (heffect : ∀ s f, (effect f s).counters = s.counters) (f : Frame) :
    CountersGrow s (admitCommand kind effect f s) :=
  (replyTo_countersGrow _ f _ _).after ((countAccepted_countersGrow _).after (.of_eq (heffect s f)))

theorem admitShed_countersGrow (order : OfferOrder) (f : Frame) : CountersGrow s (admitShed order f s) := by
  cases order
  · exact (replyTo_countersGrow _ f _ _).after
      ((arbitrate_countersGrow _).after ((countAccepted_countersGrow _).after (takeShed_countersGrow s _ _)))
  · exact (takeShed_countersGrow _ _ _).after
      ((arbitrate_countersGrow _).after ((replyTo_countersGrow _ f _ _).after (countAccepted_countersGrow s)))

theorem admitClear_countersGrow (f : Frame) : CountersGrow s (admitClear f s) := by
  unfold admitClear
  split
  · exact admitCommand_countersGrow s (by simp) f
  · exact (CountersGrow.of_eq (clearConditions_counters _ _)).after (admitCommand_countersGrow s noEffect_counters f)

/-- A command counts as admitted or as refused, with what its reply or the NUMBER_CLASH latch calls for (R162 to
R165). -/
theorem handleCommand_countersGrow {kind : Kind} {admitted : Frame → State → State}
    (hadmitted : ∀ s f, CountersGrow s (admitted f s)) (f : Frame) :
    CountersGrow s (handleCommand kind admitted f s) := by
  unfold handleCommand
  split
  · exact .refl s
  · split
    · exact setLatch_countersGrow s _
    · split
      · exact .refl s
      · split
        · exact hadmitted s f
        · exact (replyTo_countersGrow _ f _ _).after (countRefused_countersGrow s)

theorem takeCommand_countersGrow {kind : Kind} {admitted : Frame → State → State}
    (hadmitted : ∀ s f, CountersGrow s (admitted f s)) : CountersGrow s (takeCommand kind admitted s) := by
  unfold takeCommand
  split
  next hf => exact (handleCommand_countersGrow _ hadmitted _).after (.of_eq (takeFront_counters hf))
  next => exact .refl s

/-- A command whose effect leaves the counters alone. -/
theorem takeCommand_admitCommand_countersGrow {kind : Kind} {effect : Frame → State → State}
    (heffect : ∀ s f, (effect f s).counters = s.counters) :
    CountersGrow s (takeCommand kind (admitCommand kind effect) s) :=
  takeCommand_countersGrow s fun t => admitCommand_countersGrow t heffect

theorem blockTimerExpiry_countersGrow : CountersGrow s (blockTimerExpiry s) := by
  unfold blockTimerExpiry
  split
  · split
    · split
      · exact .of_eq rfl
      · dsimp only
        split
        · exact (setLatch_countersGrow _ _).after (.of_eq rfl)
        · exact .of_eq rfl
    · exact .refl s
    · exact .refl s
  · exact .refl s

theorem shedTimerExpiry_countersGrow : CountersGrow s (shedTimerExpiry s) := by
  unfold shedTimerExpiry
  (repeat' split) <;> exact .of_eq rfl

theorem reportIntervalExpiry_countersGrow : CountersGrow s (reportIntervalExpiry s) := by
  unfold reportIntervalExpiry
  (repeat' split) <;> exact .of_eq (by simp [setIntervalTimer])

theorem spacingTimerExpiry_countersGrow : CountersGrow s (spacingTimerExpiry s) := by
  unfold spacingTimerExpiry
  split <;> exact .of_eq (by simp)

theorem sampleRecord_countersGrow (characters : List Byte) : CountersGrow s (sampleRecord characters s) := by
  unfold sampleRecord
  split <;> exact .of_eq (by simp [acceptRecord])

theorem sampleTimerExpiry_countersGrow : CountersGrow s (sampleTimerExpiry s) := by
  unfold sampleTimerExpiry
  split
  · exact (setLatch_countersGrow _ _).after (.of_eq rfl)
  · exact .refl s

theorem fieldHoldTimerExpiry_countersGrow (n : FieldName) : CountersGrow s (fieldHoldTimerExpiry n s) := by
  unfold fieldHoldTimerExpiry
  split
  · refine (setLatch_countersGrow _ _).after (.of_eq ?_)
    split <;> simp
  · exact .refl s

theorem rawLevelChange_countersGrow (i : InputName) (level : Level) : CountersGrow s (rawLevelChange i level s) := by
  unfold rawLevelChange
  dsimp only
  split
  · exact .refl s
  · split
    · exact (rawChanged_countersGrow _ i).after (.of_eq rfl)
    · exact .of_eq rfl

theorem debounceTimerExpiry_countersGrow (i : InputName) : CountersGrow s (debounceTimerExpiry i s) := by
  unfold debounceTimerExpiry
  split
  · exact recogniseChange_countersGrow s i
  · exact .refl s

theorem silenceTimerExpiry_countersGrow : CountersGrow s (silenceTimerExpiry s) := by
  unfold silenceTimerExpiry
  split <;> exact .of_eq rfl

theorem discardFrame_countersGrow : CountersGrow s (discardFrame s) :=
  (setLatch_countersGrow _ _).after (.of_forall₂ (by simp [State.counters]))

theorem offerFrame_countersGrow (f : Frame) : CountersGrow s (offerFrame f s) := by
  unfold offerFrame
  split
  · exact .of_eq rfl
  · exact (setLatch_countersGrow _ _).after (.of_forall₂ (by simp [State.counters]))

/-- A well-formed frame for this station is counted, whether or not the queue has room for it (R155, R156). -/
theorem receiveFrame_countersGrow (f : Frame) : CountersGrow s (receiveFrame f s) := by
  unfold receiveFrame
  dsimp only
  split
  · exact .of_eq rfl
  · split
    · exact .of_eq rfl
    · split
      · exact .of_forall₂ (by simp [State.counters])
      · exact (offerFrame_countersGrow _ f).after (.of_forall₂ (by simp [State.counters]))

theorem frameReceived_countersGrow (raw : RawGroup) : CountersGrow s (frameReceived raw s) := by
  unfold frameReceived
  split
  · split
    · exact (receiveFrame_countersGrow _ _).after ((CountersGrow.of_eq rfl).after (countCorrected_countersGrow s _))
    · exact .refl s
    · exact .refl s
    · exact .refl s
  · exact .refl s

theorem frameDiscarded_countersGrow (raw : RawGroup) : CountersGrow s (frameDiscarded raw s) := by
  unfold frameDiscarded
  split
  · split
    · exact (discardFrame_countersGrow _).after (countCorrected_countersGrow s _)
    · exact .refl s
    · exact .refl s
    · exact .refl s
  · exact .refl s

theorem groupComplete_countersGrow (raw : RawGroup) : CountersGrow s (groupComplete raw s) := by
  unfold groupComplete
  split
  · split
    · exact (countCorrected_countersGrow _ _).after (.of_eq rfl)
    · exact .refl s
    · exact .refl s
    · exact .refl s
  · exact .refl s

theorem breakDetected_countersGrow (fromOwnJam : Bool) : CountersGrow s (breakDetected fromOwnJam s) := by
  unfold breakDetected
  split
  · exact .of_forall₂ (by simp [State.counters])
  · exact .refl s

theorem lineIdle_countersGrow : CountersGrow s (lineIdle s) := by
  unfold lineIdle
  split
  · dsimp only
    split
    · exact (CountersGrow.of_eq rfl).after (discardFrame_countersGrow s)
    · exact .of_eq rfl
  · exact .refl s

theorem startBitHeard_countersGrow : CountersGrow s (startBitHeard s) := by
  unfold startBitHeard
  split <;> exact .of_eq rfl

theorem markerReceived_countersGrow (character : Byte) : CountersGrow s (markerReceived character s) := by
  unfold markerReceived
  split <;> exact .of_eq rfl

theorem attemptStart_countersGrow : CountersGrow s (attemptStart s) := by
  unfold attemptStart
  split
  · split <;> exact .of_eq (by simp)
  · exact .refl s

theorem collision_countersGrow : CountersGrow s (collision s) := by
  unfold collision
  split
  · exact .of_forall₂ (by simp [State.counters])
  · exact .refl s

theorem departureAlarm_countersGrow (abandoned : Bool) (e : TxEntry) :
    CountersGrow s (departureAlarm abandoned e s) := by
  have hdue : CountersGrow s (if (e.isAlarm && s.speaking) = true then offerDueAlarm s else s) := by
    split
    · exact offerDueAlarm_countersGrow s
    · exact .refl s
  unfold departureAlarm
  dsimp only
  split
  · exact (setLatch_countersGrow _ _).after hdue
  · exact hdue

/-- A departure counts at most what its ALARM counts: the choice and the report around it count nothing (R158). -/
theorem depart_countersGrow (abandoned : Bool) (choice : ChoiceOrder) (order : OfferOrder) :
    CountersGrow s (depart abandoned choice order s) := by
  have halarm (e : TxEntry) {t : State} (ht : t.counters = s.counters) :
      CountersGrow s (departureAlarm abandoned e t) := (departureAlarm_countersGrow t abandoned e).after (.of_eq ht)
  unfold depart
  split
  · exact .refl s
  · dsimp only
    split
    · exact (queueReport_countersGrow _).after ((arbitrate_countersGrow _).after (halarm _ (by simp)))
    · exact halarm _ (by simp)
    · exact (queueReport_countersGrow _).after (halarm _ (by simp))
    · exact (queueReport_countersGrow _).after (halarm _ (by simp))
    · exact halarm _ (by simp)
    · exact halarm _ (by simp)

theorem abandon_countersGrow (choice : ChoiceOrder) (order : OfferOrder) :
    CountersGrow s (abandon choice order s) := by
  cases choice
  · exact depart_countersGrow s true _ order
  · exact depart_countersGrow s true _ order
  · exact (depart_countersGrow _ false _ order).after (setLatch_countersGrow s _)

theorem jamEnd_countersGrow (choice : ChoiceOrder) (order : OfferOrder) : CountersGrow s (jamEnd choice order s) := by
  unfold jamEnd
  split
  · dsimp only
    split
    · exact .of_eq rfl
    · exact (abandon_countersGrow _ choice order).after (.of_forall₂ (by simp [State.counters]))
  · exact .refl s

theorem entrySent_countersGrow (choice : ChoiceOrder) (order : OfferOrder) :
    CountersGrow s (entrySent choice order s) := by
  unfold entrySent
  split
  · exact (depart_countersGrow _ false choice order).after (.of_eq rfl)
  · exact .refl s

end Events

/-! ### The end of an event, and every event -/

/-- An event's outcome for the counters: they grow within their bound, or a reset has brought each to 0 (R3, R168). -/
def CountersKept (s t : State) : Prop :=
  CountersGrow s t ∨ t.control.mode = .starting ∧ t.counters = State.reset.counters

/-- The end of an event counts nothing; the reset of a RESTART brings the counters to 0 (R167, R168). -/
theorem CountersGrow.kept_settle {s t : State} (h : CountersGrow s t) : CountersKept s (settle t) := by
  unfold settle
  split
  · exact .inr ⟨rfl, rfl⟩
  · exact .inl ((arbitrate_countersGrow _).after h)

theorem CountersGrow.kept_of_done {s t u : State} (h : CountersGrow s u) (ht : done (settle u) = .next t) :
    CountersKept s t := by
  cases ht
  exact h.kept_settle

/-- The reset pin brings the counters to 0 (R168). -/
theorem settle_resetPinAssert_kept (s : State) : CountersKept s (settle (resetPinAssert s)) :=
  .inr ⟨rfl, rfl⟩

/-- Every event keeps the counters (R3). -/
theorem exec_countersKept {c : Instr} {s t : State} (h : exec c s = .next t) : CountersKept s t := by
  cases c with
  | resetPinAssert =>
    cases h
    exact settle_resetPinAssert_kept s
  | sampleRecordBroken =>
    cases h
    exact .inl (.refl s)
  | resetPinRelease pins => exact (resetPinRelease_countersGrow s pins).kept_of_done h
  | descriptorReadComplete bytes => exact (descriptorReadComplete_countersGrow s bytes).kept_of_done h
  | safeRecordTimerExpiry => exact (safeRecordTimerExpiry_countersGrow s).kept_of_done h
  | joinTimerExpiry order => exact (joinTimerExpiry_countersGrow s order).kept_of_done h
  | holdTimerExpiry => exact (holdTimerExpiry_countersGrow s).kept_of_done h
  | valveLoopControlPeriodExpiry order => exact (valvePeriodExpiry_countersGrow s order).kept_of_done h
  | headControlPeriodExpiry => exact (headPeriodExpiry_countersGrow s).kept_of_done h
  | shareComputation => exact (shareComputation_countersGrow s).kept_of_done h
  | ageTimerExpiry number => exact (ageTimerExpiry_countersGrow s number).kept_of_done h
  | takeStationReport => exact (takeStationReport_countersGrow s).kept_of_done h
  | takeAlarmFrame => exact (takeAlarmFrame_countersGrow s).kept_of_done h
  | limitBlock => exact (takeCommand_admitCommand_countersGrow s limitBlockEffect_counters).kept_of_done h
  | limitCancel => exact (takeCommand_admitCommand_countersGrow s limitCancelEffect_counters).kept_of_done h
  | shed order => exact (takeCommand_countersGrow s fun t => admitShed_countersGrow t order).kept_of_done h
  | clearConditions => exact (takeCommand_countersGrow s admitClear_countersGrow).kept_of_done h
  | hold => exact (takeCommand_admitCommand_countersGrow s fun t _ => enterHold_counters t _).kept_of_done h
  | release => exact (takeCommand_admitCommand_countersGrow s fun t _ => releaseHold_counters t).kept_of_done h
  | forget => exact (takeCommand_admitCommand_countersGrow s fun t _ => forgetEntry_counters t _).kept_of_done h
  | restart => exact (takeCommand_admitCommand_countersGrow s noEffect_counters).kept_of_done h
  | readView => exact (takeCommand_admitCommand_countersGrow s noEffect_counters).kept_of_done h
  | readCounters => exact (takeCommand_admitCommand_countersGrow s noEffect_counters).kept_of_done h
  | blockTimerExpiry => exact (blockTimerExpiry_countersGrow s).kept_of_done h
  | shedTimerExpiry => exact (shedTimerExpiry_countersGrow s).kept_of_done h
  | reportIntervalExpiry => exact (reportIntervalExpiry_countersGrow s).kept_of_done h
  | spacingTimerExpiry => exact (spacingTimerExpiry_countersGrow s).kept_of_done h
  | sampleRecord characters => exact (sampleRecord_countersGrow s characters).kept_of_done h
  | sampleTimerExpiry => exact (sampleTimerExpiry_countersGrow s).kept_of_done h
  | fieldHoldTimerExpiry field => exact (fieldHoldTimerExpiry_countersGrow s field).kept_of_done h
  | rawLevelChange input level => exact (rawLevelChange_countersGrow s input level).kept_of_done h
  | debounceTimerExpiry input => exact (debounceTimerExpiry_countersGrow s input).kept_of_done h
  | silenceTimerExpiry => exact (silenceTimerExpiry_countersGrow s).kept_of_done h
  | frameReceived group => exact (frameReceived_countersGrow s group).kept_of_done h
  | frameDiscarded group => exact (frameDiscarded_countersGrow s group).kept_of_done h
  | breakDetected fromOwnJam => exact (breakDetected_countersGrow s fromOwnJam).kept_of_done h
  | lineIdle => exact (lineIdle_countersGrow s).kept_of_done h
  | startBitHeard => exact (startBitHeard_countersGrow s).kept_of_done h
  | attemptStart => exact (attemptStart_countersGrow s).kept_of_done h
  | collision => exact (collision_countersGrow s).kept_of_done h
  | jamEnd choice order => exact (jamEnd_countersGrow s choice order).kept_of_done h
  | entrySent choice order => exact (entrySent_countersGrow s choice order).kept_of_done h
  | groupComplete group => exact (groupComplete_countersGrow s group).kept_of_done h
  | markerReceived character => exact (markerReceived_countersGrow s character).kept_of_done h

/-- The invariant's clause on the counters bounds each of them (R3). -/
theorem CountersOk.getD_le {s : State} (h : CountersOk s) (k : Nat) : s.counters.getD k 0 ≤ 65535 := by
  have hall : ∀ n ∈ s.counters, n ≤ 65535 := by simpa [CountersOk, State.counters] using h
  rw [List.getD_eq_getElem?_getD]
  cases hk : s.counters[k]? with
  | none => simp
  | some n => exact hall n (List.mem_of_getElem? hk)

theorem powerUpCountersOk : CountersOk State.reset := by
  simp [CountersOk, State.reset, LineUnit.atReset, PeerTable.atReset, CommandHandler.atReset]

theorem StationOk.countersOk {s : State} (h : StationOk s) : CountersOk s := by
  obtain ⟨-, -, -, -, -, -, -, -, -, -, hcounters, -⟩ := h
  exact hcounters

/-- Settles O59: an event lets each counter grow within its bound, or resets them all. -/
theorem countersSaturate : Obligations.CountersSaturate := by
  intro c k s t hs ht _
  have hbound := hs.countersOk.getD_le k
  rcases exec_countersKept ht with hgrow | ⟨hmode, hreset⟩
  · obtain ⟨hle, htop⟩ := hgrow k hbound
    exact ⟨hbound, htop, .inl hle, fun hmax => .inl (by omega)⟩
  · have htop : t.counters.getD k 0 ≤ 65535 := hreset ▸ powerUpCountersOk.getD_le k
    exact ⟨hbound, htop, .inr hmode, fun _ => .inr hmode⟩

end Sys2Proof.Machine
end

section
/-! The choice of R112 at HEAD_CONTROL_PERIOD_EXPIRY. `leastMargin` over a table in the order of R5 answers a critical
station (`IsCritical`) or finds no eligible peer; the rest of the expiry keeps what the choice found. -/

namespace Sys2Proof.Machine

/-! ### Eligible peers -/

theorem PeerEntry.eligibleMargin_eq_some_iff {e : PeerEntry} {m : Int} :
    e.eligibleMargin = some m ↔ Eligible e m := by
  unfold PeerEntry.eligibleMargin Eligible
  cases e.part with
  | transfer p => simp [and_assoc]
  | plant p => simp

theorem PeerEntry.eligibleMargin_isSome_iff {e : PeerEntry} :
    e.eligibleMargin.isSome = true ↔ ∃ m, Eligible e m := by
  simp only [Option.isSome_iff_exists, PeerEntry.eligibleMargin_eq_some_iff]

theorem PeerEntry.reportsStarved_iff {e : PeerEntry} :
    e.reportsStarved = true ↔ ∃ p, e.part = .transfer p ∧ p.starved = true := by
  unfold PeerEntry.reportsStarved
  cases e.part <;> simp

theorem Eligible.margin_unique {e : PeerEntry} {m m' : Int} (h : Eligible e m) (h' : Eligible e m') : m = m' := by
  rw [← PeerEntry.eligibleMargin_eq_some_iff] at h h'
  exact Option.some.inj (h.symm.trans h')

/-! ### The least margin -/

/-- A table in ascending order of station number (R5). -/
abbrev Ascending (entries : List PeerEntry) : Prop := entries.Pairwise (fun a b => a.number < b.number)

/-- c is the eligible peer of least margin mc, the lowest number among equals (R112). -/
def IsCritical (entries : List PeerEntry) (c : PeerEntry) (mc : Int) : Prop :=
  c ∈ entries ∧ Eligible c mc
    ∧ ∀ e m, e ∈ entries → Eligible e m → mc < m ∨ (mc = m ∧ c.number ≤ e.number)

/-- An entry that is not eligible leaves the critical station of the others. -/
theorem IsCritical.cons_of_not_eligible {e c : PeerEntry} {rest : List PeerEntry} {mc : Int}
    (h : IsCritical rest c mc) (he : ∀ m, ¬ Eligible e m) : IsCritical (e :: rest) c mc := by
  obtain ⟨hc, hmc, hleast⟩ := h
  refine ⟨List.mem_cons_of_mem e hc, hmc, fun x m hx hm => ?_⟩
  rcases List.mem_cons.1 hx with rfl | hx
  · exact absurd hm (he m)
  · exact hleast x m hx hm

/-- The only eligible entry is the critical station. -/
theorem isCritical_cons_of_none {e : PeerEntry} {rest : List PeerEntry} {m : Int} (he : Eligible e m)
    (hrest : ∀ x k, x ∈ rest → ¬ Eligible x k) : IsCritical (e :: rest) e m := by
  refine ⟨List.mem_cons_self, he, fun x k hx hk => ?_⟩
  rcases List.mem_cons.1 hx with rfl | hx
  · exact .inr ⟨he.margin_unique hk, le_rfl⟩
  · exact absurd hk (hrest x k hx)

/-- An entry of the lowest number is the critical station if its margin is at most the least of the others. -/
theorem IsCritical.cons_of_le {e c : PeerEntry} {rest : List PeerEntry} {m mc : Int} (h : IsCritical rest c mc)
    (he : Eligible e m) (hle : m ≤ mc) (hlow : ∀ x ∈ rest, e.number < x.number) : IsCritical (e :: rest) e m := by
  obtain ⟨-, -, hleast⟩ := h
  refine ⟨List.mem_cons_self, he, fun x k hx hk => ?_⟩
  rcases List.mem_cons.1 hx with rfl | hx
  · exact .inr ⟨he.margin_unique hk, le_rfl⟩
  · have := hleast x k hx hk
    have := hlow x hx
    omega

/-- An entry of a greater margin leaves the critical station of the others. -/
theorem IsCritical.cons_of_lt {e c : PeerEntry} {rest : List PeerEntry} {m mc : Int} (h : IsCritical rest c mc)
    (he : Eligible e m) (hlt : mc < m) : IsCritical (e :: rest) c mc := by
  obtain ⟨hc, hmc, hleast⟩ := h
  refine ⟨List.mem_cons_of_mem e hc, hmc, fun x k hx hk => ?_⟩
  rcases List.mem_cons.1 hx with rfl | hx
  · exact .inl (he.margin_unique hk ▸ hlt)
  · exact hleast x k hx hk

/-- What `leastMargin` can answer for a table in order: nothing and no entry is eligible, or the critical station
(R112). -/
theorem leastMargin_cases {entries : List PeerEntry} (hasc : Ascending entries) :
    (leastMargin entries = none ∧ ∀ e m, e ∈ entries → ¬ Eligible e m)
      ∨ ∃ c mc, leastMargin entries = some (c.number, mc) ∧ IsCritical entries c mc := by
  induction entries with
  | nil => exact .inl ⟨rfl, by simp⟩
  | cons e rest ih =>
    obtain ⟨hlow, hrest⟩ := List.pairwise_cons.1 hasc
    cases hm : e.eligibleMargin with
    | none =>
      have he (m : Int) : ¬ Eligible e m := by simp [← PeerEntry.eligibleMargin_eq_some_iff, hm]
      rcases ih hrest with ⟨hnone, hno⟩ | ⟨c, mc, hsome, hc⟩
      · exact .inl ⟨by simp [leastMargin, hm, hnone],
          fun x k hx => (List.mem_cons.1 hx).elim (fun h => h ▸ he k) (hno x k)⟩
      · exact .inr ⟨c, mc, by simp [leastMargin, hm, hsome], hc.cons_of_not_eligible he⟩
    | some m =>
      have he : Eligible e m := PeerEntry.eligibleMargin_eq_some_iff.1 hm
      rcases ih hrest with ⟨hnone, hno⟩ | ⟨c, mc, hsome, hc⟩
      · exact .inr ⟨e, m, by simp [leastMargin, hm, hnone], isCritical_cons_of_none he hno⟩
      · by_cases hle : m ≤ mc
        · exact .inr ⟨e, m, by simp [leastMargin, hm, hsome, hle], hc.cons_of_le he hle hlow⟩
        · exact .inr ⟨c, mc, by simp [leastMargin, hm, hsome, hle], hc.cons_of_lt he (by omega)⟩

/-! ### The counts -/

theorem Ascending.nodup {entries : List PeerEntry} (hasc : Ascending entries) : entries.Nodup :=
  hasc.imp fun hlt heq => absurd (congrArg PeerEntry.number heq) hlt.ne

/-- A count over a list without duplicates is the length of any such list of the elements counted. -/
theorem countP_eq_length_of_mem_iff {α : Type} {p : α → Bool} {a l : List α} (ha : a.Nodup) (hl : l.Nodup)
    (hmem : ∀ x, x ∈ l ↔ x ∈ a ∧ p x = true) : a.countP p = l.length := by
  rw [List.countP_eq_length_filter]
  refine (List.perm_ext_iff_of_nodup (ha.filter p) hl).2 (fun x => ?_) |>.length_eq
  rw [List.mem_filter, hmem]

theorem eligibleCount_eq_length {entries l : List PeerEntry} (hasc : Ascending entries) (hl : l.Nodup)
    (hmem : ∀ e, e ∈ l ↔ e ∈ entries ∧ ∃ m, Eligible e m) : eligibleCount entries = l.length :=
  countP_eq_length_of_mem_iff hasc.nodup hl fun e => by rw [hmem, PeerEntry.eligibleMargin_isSome_iff]

theorem starvedCount_eq_length {entries l : List PeerEntry} (hasc : Ascending entries) (hl : l.Nodup)
    (hmem : ∀ e, e ∈ l ↔ e ∈ entries ∧ (∃ m, Eligible e m) ∧ ∃ p, e.part = .transfer p ∧ p.starved = true) :
    starvedCount entries = l.length :=
  countP_eq_length_of_mem_iff hasc.nodup hl fun e => by
    rw [hmem, Bool.and_eq_true, PeerEntry.eligibleMargin_isSome_iff, PeerEntry.reportsStarved_iff]

theorem eligibleCount_eq_zero {entries : List PeerEntry} (hno : ∀ e m, e ∈ entries → ¬ Eligible e m) :
    eligibleCount entries = 0 :=
  List.countP_eq_zero.2 fun e he hsome =>
    have ⟨m, hm⟩ := PeerEntry.eligibleMargin_isSome_iff.1 hsome
    hno e m he hm

/-! ### The expiry -/

/-- In JOINING no choice is made (R112). -/
theorem chooseCritical_of_joining {s : State} (h : s.control.mode = .joining) :
    chooseCritical s
      = s.setHead { s.head with eligible := 0, starvedEligible := 0, critical := none, criticalMargin := none } := by
  simp [chooseCritical, h]

/-- Outside JOINING the choice is made over the whole table (R112). -/
theorem chooseCritical_of_not_joining {s : State} (h : s.control.mode ≠ .joining) :
    chooseCritical s = s.setHead
      { s.head with
        eligible := eligibleCount s.peers.entries
        starvedEligible := starvedCount s.peers.entries
        critical := (leastMargin s.peers.entries).map Prod.fst
        criticalMargin := (leastMargin s.peers.entries).map Prod.snd } := by
  simp [chooseCritical, h]

@[simp] theorem chooseCritical_command (s : State) : (chooseCritical s).command = s.command := by
  unfold chooseCritical
  split <;> rfl

@[simp] theorem changeTrigger_head (s : State) : (changeTrigger s).head = s.head := by
  unfold changeTrigger
  split <;> simp [setReportDue]

@[simp] theorem changeTrigger_command (s : State) : (changeTrigger s).command = s.command := by
  unfold changeTrigger
  split <;> simp [setReportDue]

/-- The end of an event in which no RESTART takes effect leaves the Head Reset Unit (R158, R167). -/
theorem settle_head {s : State} (h : s.command.restartDue = false) : (settle s).head = s.head := by
  simp [settle, h]

/-- In a plant station the period timer runs in every mode after STARTING (R110). -/
theorem StationOk.headPeriodTimer_isRunning {s : State} (h : StationOk s) :
    s.head.periodTimer.isRunning = s.isPlant := by
  obtain ⟨-, ⟨-, -, -, -, -, -, -, -, htimer, -⟩, -⟩ := h
  exact htimer

theorem StationOk.ascending {s : State} (h : StationOk s) : Ascending s.peers.entries := by
  obtain ⟨-, -, -, -, ⟨-, hasc, -⟩, -⟩ := h
  exact hasc

/-- An expiry in a plant station leaves the Head Reset Unit as the choice and the movement make it (R110). -/
theorem exec_headControlPeriodExpiry_head {s : State} (hs : StationOk s) (hplant : s.isPlant = true) :
    ∃ t, exec .headControlPeriodExpiry s = .next t ∧ t.head = (moveHead (chooseCritical s)).head := by
  have hrun : s.head.periodTimer.isRunning = true := hs.headPeriodTimer_isRunning.trans hplant
  refine ⟨settle (headPeriodExpiry s), rfl, ?_⟩
  rw [headPeriodExpiry, if_pos hrun, settle_head (by simpa [headDrive, moveHead] using hs.settled.1)]
  simp [headDrive]

/-- The movement keeps what the choice found (R113). -/
@[simp] theorem moveHead_choice (s : State) :
    (moveHead s).head.eligible = s.head.eligible ∧ (moveHead s).head.starvedEligible = s.head.starvedEligible
      ∧ (moveHead s).head.critical = s.head.critical
      ∧ (moveHead s).head.criticalMargin = s.head.criticalMargin :=
  ⟨rfl, rfl, rfl, rfl⟩

/-- Settles O21: the least margin of the ordered table is the critical station's, and the expiry keeps the choice. -/
theorem criticalStationIsLeastMargin : Obligations.CriticalStationIsLeastMargin := by
  intro s hs hplant
  have hasc : Ascending s.peers.entries := hs.ascending
  obtain ⟨t, ht, hhead⟩ := exec_headControlPeriodExpiry_head hs hplant
  refine ⟨t, ht, fun hjoin => ?_, fun hmode => ?_⟩
  · simp [hhead, chooseCritical_of_joining hjoin]
  · simp only [hhead, moveHead_choice, chooseCritical_of_not_joining hmode, State.setHead_head]
    refine ⟨fun e m he hm => ?_, fun hno => ?_, fun l hl hmem => eligibleCount_eq_length hasc hl hmem,
      fun l hl hmem => starvedCount_eq_length hasc hl hmem⟩
    · rcases leastMargin_cases hasc with ⟨-, hno⟩ | ⟨c, mc, hsome, hc, hmc, hleast⟩
      · exact absurd hm (hno e m he)
      · exact ⟨c, mc, hc, hmc, by simp [hsome], by simp [hsome], hleast e m he hm⟩
    · rcases leastMargin_cases hasc with ⟨hnone, -⟩ | ⟨c, mc, -, hc, hmc, -⟩
      · exact ⟨by simp [hnone], by simp [hnone], eligibleCount_eq_zero hno⟩
      · exact absurd hmc (hno c mc hc)

end Sys2Proof.Machine
end

section
/-! The check character of R175. A parity over the 38 positions of the codeword is one over the check positions and one
over the data positions; the model's exclusive or of positions (`receivedSyndrome`) and its count of odd bits
(`receivedOdd`) are those parities. -/

namespace Sys2Proof.Machine

/-! ### Parities of counts -/

theorem bodd_eq_decide (n : Nat) : n.bodd = decide (n % 2 = 1) := by
  rw [Nat.mod_two_of_bodd]
  cases n.bodd <;> rfl

theorem oddOnes_succ (v n : Nat) : oddOnes v (n + 1) = (v.testBit n ^^ oddOnes v n) := rfl

/-- `oddOnes` is the parity of the count of ones below a bit. -/
theorem oddOnes_eq_bodd (v n : Nat) : oddOnes v n = ((List.range n).countP v.testBit).bodd := by
  induction n with
  | zero => simp [oddOnes]
  | succ n ih => cases h : v.testBit n <;> simp [oddOnes_succ, ih, h, List.range_succ]

/-- `oddOnes` reads only the bits below its bound. -/
theorem oddOnes_congr {v w n : Nat} (h : ∀ i < n, v.testBit i = w.testBit i) : oddOnes v n = oddOnes w n := by
  rw [oddOnes_eq_bodd, oddOnes_eq_bodd]
  exact congrArg Nat.bodd (List.countP_congr fun i hi => by rw [h i (List.mem_range.1 hi)])

/-! ### The positions of the codeword -/

/-- The positions of check bits c0 to c5 (R175, step 2). -/
def checkPositions : List Nat := (List.range 6).map (2 ^ ·)

/-- Each of the 38 positions holds one check bit or one data bit (R175, steps 1 and 2). -/
theorem range'_perm_checkPositions_append_dataPositions :
    (List.range' 1 38).Perm (checkPositions ++ dataPositions) := by decide

theorem countP_positions (p : Nat → Bool) :
    (List.range' 1 38).countP p = checkPositions.countP p + dataPositions.countP p := by
  rw [range'_perm_checkPositions_append_dataPositions.countP_eq, List.countP_append]

theorem mem_dataPositions {p : Nat} (hlow : 1 ≤ p) (hhigh : p ≤ 38) (hp : p ∉ checkPositions) :
    p ∈ dataPositions := by
  have hmem : p ∈ checkPositions ++ dataPositions :=
    range'_perm_checkPositions_append_dataPositions.mem_iff.1 (by simp; omega)
  exact (List.mem_append.1 hmem).resolve_left hp

theorem dataPositions_nodup : dataPositions.Nodup := by decide

theorem dataPositions_lt : ∀ p ∈ dataPositions, p < 2 ^ 6 := by decide

section Codeword

variable (g : Group) (check : Byte)

/-- Position 2 to the power k holds ck (R175, step 2). -/
theorem codewordBit_two_pow {k : Nat} (hk : k < 6) : codewordBit g check (2 ^ k) = check.getLsbD k := by
  interval_cases k <;> rfl

theorem countP_checkPositions (p : Nat → Bool → Bool) :
    checkPositions.countP (fun q => p q (codewordBit g check q))
      = (List.range 6).countP (fun k => p (2 ^ k) (check.getLsbD k)) := by
  rw [checkPositions, List.countP_map]
  refine List.countP_congr fun k hk => ?_
  simp only [Function.comp_apply, codewordBit_two_pow g check (List.mem_range.1 hk)]

/-- The data positions hold d0 to d31 in order. -/
theorem map_codewordBit_dataPositions :
    dataPositions.map (codewordBit g check) = (List.range' 0 32).map g.getLsbD := rfl

theorem countP_dataPositions :
    dataPositions.countP (codewordBit g check) = (List.range 32).countP g.toNat.testBit := by
  have hmap := congrArg (List.countP id) (map_codewordBit_dataPositions g check)
  rwa [List.countP_map, List.countP_map, ← List.range_eq_range'] at hmap

theorem codewordBit_getElem_dataPositions {k : Nat} (hk : k < dataPositions.length) :
    codewordBit g check dataPositions[k] = g.getLsbD k := by
  have hbit := List.getElem_of_eq (map_codewordBit_dataPositions g check) (by simpa using hk)
  rwa [List.getElem_map, List.getElem_map, List.getElem_range', Nat.zero_add, Nat.one_mul] at hbit

/-- Among the check positions, the one whose number has bit i set holds ci. -/
theorem countP_testBit_checkPositions {i : Nat} (hi : i < 6) :
    checkPositions.countP (fun p => p.testBit i && codewordBit g check p) = (check.getLsbD i).toNat := by
  have honly (k : Nat) : ((2 ^ k).testBit i && check.getLsbD k) = (k == i && check.getLsbD i) := by
    rw [Nat.testBit_two_pow]
    by_cases hk : k = i <;> simp [hk]
  rw [countP_checkPositions g check fun p b => p.testBit i && b, funext honly]
  cases check.getLsbD i
  · simp
  · simp only [Bool.and_true, Bool.toNat_true]
    exact List.count_eq_one_of_mem List.nodup_range (List.mem_range.2 hi)

end Codeword

/-! ### Syndrome and overall parity -/

/-- Bit i of the exclusive or of positions is the parity of the positions whose number has bit i set, for bits that the
positions hold as the group does. -/
theorem testBit_dataSyndrome (g : Group) (f : Nat → Bool) (i : Nat) {k : Nat} {ps : List Nat}
    (hf : ps.map f = (List.range' k ps.length).map g.getLsbD) :
    (dataSyndrome g k ps).testBit i = (ps.countP (fun p => p.testBit i && f p)).bodd := by
  induction ps generalizing k with
  | nil => simp [dataSyndrome]
  | cons p ps ih =>
    obtain ⟨hp, hps⟩ : f p = g.getLsbD k ∧ ps.map f = (List.range' (k + 1) ps.length).map g.getLsbD := by
      simpa [List.range'_succ] using hf
    have hstep : (dataSyndrome g k (p :: ps)).testBit i
        = ((p.testBit i && f p) ^^ (dataSyndrome g (k + 1) ps).testBit i) := by
      rw [dataSyndrome, hp]
      cases g.getLsbD k <;> simp
    rw [hstep, ih hps, List.countP_cons, Nat.bodd_add, Bool.xor_comm]
    cases p.testBit i && f p <;> rfl

/-- Positions below a power of two have an exclusive or below it. -/
theorem dataSyndrome_lt (g : Group) {n k : Nat} {ps : List Nat} (h : ∀ p ∈ ps, p < 2 ^ n) :
    dataSyndrome g k ps < 2 ^ n := by
  induction ps generalizing k with
  | nil => exact Nat.two_pow_pos n
  | cons p ps ih =>
    obtain ⟨hp, hps⟩ := List.forall_mem_cons.1 h
    refine Nat.xor_lt_two_pow ?_ (ih hps)
    split
    · exact hp
    · exact Nat.two_pow_pos n

/-- The syndrome that a receiver computes (R175). -/
def receivedSyndrome (g : Group) (check : Byte) : Nat :=
  dataSyndrome g 0 dataPositions ^^^ check.toNat % 64

/-- Whether the overall parity fails at a receiver (R175). -/
def receivedOdd (g : Group) (check : Byte) : Bool := xor (oddOnes g.toNat 32) (oddOnes check.toNat 7)

section Received

variable (g : Group) (check : Byte)

theorem decodeChecked_of_bit_seven (h7 : check.getLsbD 7 = true) : decodeChecked g check = .damaged :=
  if_pos h7

/-- The rows of R175's table in which the overall parity holds. -/
theorem decodeChecked_of_even (h7 : check.getLsbD 7 = false) (hodd : receivedOdd g check = false) :
    decodeChecked g check = if receivedSyndrome g check = 0 then .clean g else .damaged := by
  rw [receivedOdd] at hodd
  simp only [decodeChecked, h7, hodd]
  rfl

/-- The rows of R175's table in which the overall parity fails. -/
theorem decodeChecked_of_odd (h7 : check.getLsbD 7 = false) (hodd : receivedOdd g check = true) :
    decodeChecked g check
      = if receivedSyndrome g check = 0 then .corrected g
        else if receivedSyndrome g check ≤ 38 then .corrected (invertAt g (receivedSyndrome g check))
        else .damaged := by
  rw [receivedOdd] at hodd
  simp only [decodeChecked, h7, hodd]
  rfl

theorem testBit_receivedSyndrome {i : Nat} (hi : i < 6) :
    (receivedSyndrome g check).testBit i = ((dataSyndrome g 0 dataPositions).testBit i ^^ check.getLsbD i) := by
  rw [receivedSyndrome, Nat.testBit_xor, show (64 : Nat) = 2 ^ 6 from rfl, Nat.testBit_mod_two_pow]
  simp [hi, BitVec.getLsbD]

/-- Bit i of the syndrome says whether position check i fails. -/
theorem testBit_receivedSyndrome_eq_onesAt {i : Nat} (hi : i < 6) :
    (receivedSyndrome g check).testBit i = (onesAt g check i).bodd := by
  rw [testBit_receivedSyndrome g check hi,
    testBit_dataSyndrome g (codewordBit g check) i (map_codewordBit_dataPositions g check), onesAt,
    ← List.countP_eq_length_filter, countP_positions, countP_testBit_checkPositions g check hi,
    Nat.bodd_add, Bool.xor_comm]
  cases check.getLsbD i <;> rfl

/-- The overall parity fails when the 38 positions and c6 hold an odd count of ones. -/
theorem receivedOdd_eq_onesOverall : receivedOdd g check = (onesOverall g check).bodd := by
  have hcheck : checkPositions.countP (codewordBit g check) = (List.range 6).countP check.toNat.testBit :=
    countP_checkPositions g check fun _ b => b
  rw [receivedOdd, oddOnes_succ check.toNat 6, oddOnes_eq_bodd, oddOnes_eq_bodd, BitVec.testBit_toNat, onesOverall,
    ← List.countP_eq_length_filter, countP_positions, countP_dataPositions, hcheck]
  cases check.getLsbD 6 <;> simp [Nat.bodd_add, Bool.xor_comm]

theorem receivedSyndrome_lt : receivedSyndrome g check < 2 ^ 6 :=
  Nat.xor_lt_two_pow (dataSyndrome_lt g dataPositions_lt) (Nat.mod_lt _ (by decide))

/-- The six position checks fix the syndrome. -/
theorem receivedSyndrome_eq {g : Group} {check : Byte} {syndrome : Nat} (hlt : syndrome < 64)
    (h : ∀ i, i < 6 → syndrome.testBit i = decide (onesAt g check i % 2 = 1)) :
    receivedSyndrome g check = syndrome := by
  refine Nat.eq_of_testBit_eq fun i => ?_
  by_cases hi : i < 6
  · rw [testBit_receivedSyndrome_eq_onesAt g check hi, h i hi, bodd_eq_decide]
  · have hpow : 2 ^ 6 ≤ 2 ^ i := Nat.pow_le_pow_right (by decide) (by omega)
    rw [Nat.testBit_lt_two_pow ((receivedSyndrome_lt g check).trans_le hpow),
      Nat.testBit_lt_two_pow (hlt.trans_le hpow)]

end Received

/-! ### The check character of the sender -/

section Sender

variable (g : Group)

/-- The bits of the check character (R175, step 4). -/
theorem getLsbD_checkCharacter (i : Nat) :
    (checkCharacter g).getLsbD i
      = if i < 6 then (dataSyndrome g 0 dataPositions).testBit i
        else decide (i = 6) && (oddOnes g.toNat 32 ^^ oddOnes (dataSyndrome g 0 dataPositions) 6) := by
  refine BitVec.getLsbD_append.trans ?_
  split
  next h => rw [BitVec.getLsbD_ofNat, decide_eq_true h, Bool.true_and]
  next h =>
    rw [BitVec.getLsbD_append, bit, BitVec.getLsbD_ofBool]
    simp [show i - 6 = 0 ↔ i = 6 by omega]

/-- A sender's check character makes every position check hold. -/
theorem bodd_onesAt_checkCharacter {i : Nat} (hi : i < 6) : (onesAt g (checkCharacter g) i).bodd = false := by
  rw [← testBit_receivedSyndrome_eq_onesAt g _ hi, testBit_receivedSyndrome g _ hi,
    getLsbD_checkCharacter, if_pos hi, Bool.xor_self]

/-- A sender's check character makes the overall parity hold. -/
theorem receivedOdd_checkCharacter : receivedOdd g (checkCharacter g) = false := by
  have hlow : oddOnes (checkCharacter g).toNat 6 = oddOnes (dataSyndrome g 0 dataPositions) 6 :=
    oddOnes_congr fun i hi => (getLsbD_checkCharacter g i).trans (if_pos hi)
  rw [receivedOdd, oddOnes_succ (checkCharacter g).toNat 6, BitVec.testBit_toNat, hlow, getLsbD_checkCharacter]
  simp

end Sender

/-! ### The bit put right -/

/-- Inverting at a position changes the data bit there and no other. -/
theorem codewordBit_invertAt (g : Group) (check : Byte) (q : Nat) {p : Nat} (hp : p ∈ dataPositions) :
    codewordBit (invertAt g q) check p = xor (codewordBit g check p) (decide (p = q)) := by
  obtain ⟨j, hj, rfl⟩ := List.getElem_of_mem hp
  rw [codewordBit_getElem_dataPositions, codewordBit_getElem_dataPositions, invertAt]
  split
  next k hfind =>
    obtain ⟨hk, hq, -⟩ := List.findIdx?_eq_some_iff_getElem.1 hfind
    obtain rfl : dataPositions[k] = q := by simpa using hq
    have hk32 : k < 32 := hk
    have hone : (1#32 <<< k).getLsbD j = decide (j = k) := by
      rw [← BitVec.twoPow_eq, BitVec.getLsbD_twoPow]
      simp [hk32, eq_comm]
    simp only [BitVec.getLsbD_xor, hone, dataPositions_nodup.getElem_inj_iff]
  next hfind =>
    have hne : dataPositions[j] ≠ q := beq_eq_false_iff_ne.1 (List.findIdx?_eq_none_iff.1 hfind _ hp)
    rw [decide_eq_false hne, Bool.xor_false]

/-- Settles O54: the sender's parities are even by construction, and the syndrome and the overall parity that the
receiver computes are those of the codeword. -/
theorem checkCharacterFollowsTable : Obligations.CheckCharacterFollowsTable := by
  refine ⟨fun g => ⟨fun i hi => ?_, ?_, getLsbD_checkCharacter g 7⟩, fun raw syndrome hframing hlt => ?_⟩
  · simpa [Nat.mod_two_of_bodd] using bodd_onesAt_checkCharacter g hi
  · simpa [Nat.mod_two_of_bodd, receivedOdd_eq_onesOverall] using receivedOdd_checkCharacter g
  · intro g hchecks
    have hsyndrome : receivedSyndrome g raw.check = syndrome := receivedSyndrome_eq hlt hchecks
    have hodd : receivedOdd g raw.check = decide (onesOverall g raw.check % 2 = 1) := by
      rw [receivedOdd_eq_onesOverall, bodd_eq_decide]
    have hdecode : decodeGroup raw = decodeChecked g raw.check := by simp [decodeGroup, hframing, g]
    rw [hdecode]
    refine ⟨decodeChecked_of_bit_seven g raw.check, fun h7 heven => ?_, fun h7 hfail => ?_⟩
    · rw [decodeChecked_of_even g raw.check h7 (by simp [hodd, heven]), hsyndrome]
      exact ⟨fun h0 => if_pos h0, fun h0 => if_neg h0⟩
    · rw [decodeChecked_of_odd g raw.check h7 (by simp [hodd, hfail]), hsyndrome]
      refine ⟨fun h0 => if_pos h0, fun h1 h38 => ⟨invertAt g syndrome, ?_, fun p hlow hhigh hp => ?_⟩, fun h39 => ?_⟩
      · rw [if_neg (by omega), if_pos h38]
      · exact codewordBit_invertAt g raw.check syndrome (mem_dataPositions hlow hhigh hp)
      · rw [if_neg (by omega), if_neg (by omega)]

end Sys2Proof.Machine
end

section
/-! The invariant inside an event. `EventOk` is what `StationOk` says of the blocks while an event runs: restart-due may be
set and the arbiter may still have to choose. The update of a block keeps it when the block's own clauses hold after it,
and the shared operations on latches and on the Transmit Queue keep it; the end of an event turns it into `StationOk`. -/

namespace Sys2Proof.Machine

/-! ### The invariant while an event runs -/

/-- `ModeOk` without the clause on restart-due, which an event may set (log 5). -/
def ModeHeld (s : State) : Prop :=
  (s.control.joinTimer.isRunning = decide (s.control.mode = .joining))
    ∧ (s.control.holdTimer.isRunning = decide (s.control.mode = .hold))
    ∧ (s.control.safeTimer.isRunning = decide (s.control.mode = .unconfigured))
    ∧ (s.control.pinAsserted = true → s.control.mode = .starting ∧ s.control.restartCause = false)
    ∧ s.control.strapReading.code ≤ 7
    ∧ (s.control.memoryLane =
        if s.control.pinAsserted = true then []
        else readRequest ++ if s.control.mode = .starting then [] else readEnd)
    ∧ (s.control.restartCause = true → s.control.mode = .starting)
    ∧ s.valve.periodTimer.isRunning = s.isTransfer
    ∧ s.head.periodTimer.isRunning = s.isPlant

/-- The bounds and kinds of the entries of the Transmit Queue (R157). -/
def TxOk (entries : List TxEntry) : Prop :=
  entries.length ≤ 6 ∧ entries.countP TxEntry.isReport ≤ 1 ∧ entries.countP TxEntry.isAlarm ≤ 1

/-- `QueuesOk` without the clause on the arbiter's choice, which an event may leave open (R158). -/
structure QueuesHeld (s : State) : Prop where
  rxBound : s.line.rxQueue.length ≤ 8
  tx : TxOk s.line.txEntries
  unstarted : ∀ e ∈ s.line.waiting, e.started = false
  rxRest : s.active = false → s.line.rxQueue = []
  txRest : s.speaking = false → s.line.txEntries = []
  alarmDue : s.condition.alarmDue = true → s.speaking = true → s.line.holdsAlarm = true

/-- `StationOk` while an event runs, but for the counters. -/
structure EventOk (s : State) : Prop where
  config : ConfigOk s
  mode : ModeHeld s
  queues : QueuesHeld s
  attempt : AttemptOk s
  table : TableOk s
  limit : LimitOk s
  measure : MeasureOk s
  share : ShareOk s
  valve : ValveOk s
  head : HeadOk s
  reports : ReportsOk s

theorem StationOk.eventOk {s : State} (h : StationOk s) : EventOk s := by
  obtain ⟨hconfig, hmode, hqueues, hattempt, htable, hlimit, hmeasure, hshare, hvalve, hhead, -, hreports⟩ := h
  obtain ⟨hjoin, hhold, hsafe, hpin, hcode, hlane, hcause, hvt, hht, -⟩ := hmode
  obtain ⟨hrx, hlen, hrep, hal, -, hun, hrx0, htx0, hdue⟩ := hqueues
  exact ⟨hconfig, ⟨hjoin, hhold, hsafe, hpin, hcode, hlane, hcause, hvt, hht⟩,
    ⟨hrx, ⟨hlen, hrep, hal⟩, hun, hrx0, htx0, hdue⟩, hattempt, htable, hlimit, hmeasure, hshare, hvalve, hhead, hreports⟩

/-- A settled station that meets `EventOk` and whose counters are bounded is safe. -/
theorem EventOk.stationOk {s : State} (h : EventOk s) (hs : Settled s) (hc : CountersOk s) : StationOk s := by
  obtain ⟨hjoin, hhold, hsafe, hpin, hcode, hlane, hcause, hvt, hht⟩ := h.mode
  obtain ⟨hrx, ⟨hlen, hrep, hal⟩, hun, hrx0, htx0, hdue⟩ := h.queues
  exact ⟨h.config, ⟨hjoin, hhold, hsafe, hpin, hcode, hlane, hcause, hvt, hht, hs.1⟩,
    ⟨hrx, hlen, hrep, hal, hs.2, hun, hrx0, htx0, hdue⟩, h.attempt, h.table, h.limit, h.measure, h.share, h.valve,
    h.head, hc, h.reports⟩

/-! ### The update of one block -/

section Updates

variable {s : State}

theorem EventOk.setLine (h : EventOk s) {u : LineUnit} (hq : QueuesHeld (s.setLine u)) (ha : AttemptOk (s.setLine u)) :
    EventOk (s.setLine u) :=
  ⟨h.config, h.mode, hq, ha, h.table, h.limit, h.measure, h.share, h.valve, h.head, h.reports⟩

theorem EventOk.setPeers (h : EventOk s) {b : PeerTable} (ht : TableOk (s.setPeers b)) : EventOk (s.setPeers b) :=
  ⟨h.config, h.mode, ⟨h.queues.1, h.queues.2, h.queues.3, h.queues.4, h.queues.5, h.queues.6⟩, h.attempt, ht, h.limit,
    h.measure, h.share, h.valve, h.head, h.reports⟩

theorem EventOk.setReports (h : EventOk s) {b : ReportScheduler} (hr : ReportsOk (s.setReports b)) :
    EventOk (s.setReports b) :=
  ⟨h.config, h.mode, ⟨h.queues.1, h.queues.2, h.queues.3, h.queues.4, h.queues.5, h.queues.6⟩, h.attempt, h.table,
    h.limit, h.measure, h.share, h.valve, h.head, hr⟩

theorem EventOk.setShare (h : EventOk s) {b : ShareEngine} (hb : ShareOk (s.setShare b)) : EventOk (s.setShare b) :=
  ⟨h.config, h.mode, ⟨h.queues.1, h.queues.2, h.queues.3, h.queues.4, h.queues.5, h.queues.6⟩, h.attempt, h.table,
    h.limit, h.measure, hb, h.valve, h.head, h.reports⟩

theorem EventOk.setLimit (h : EventOk s) {b : LimitUnit} (hb : LimitOk (s.setLimit b)) : EventOk (s.setLimit b) :=
  ⟨h.config, h.mode, ⟨h.queues.1, h.queues.2, h.queues.3, h.queues.4, h.queues.5, h.queues.6⟩, h.attempt, h.table, hb,
    h.measure, h.share, h.valve, h.head, h.reports⟩

theorem EventOk.setValve (h : EventOk s) {b : ValveLoop} (ht : b.periodTimer = s.valve.periodTimer)
    (hb : ValveOk (s.setValve b)) : EventOk (s.setValve b) := by
  obtain ⟨hjoin, hhold, hsafe, hpin, hcode, hlane, hcause, hvt, hht⟩ := h.mode
  exact ⟨h.config, ⟨hjoin, hhold, hsafe, hpin, hcode, hlane, hcause, by simpa [ht] using hvt, hht⟩,
    ⟨h.queues.1, h.queues.2, h.queues.3, h.queues.4, h.queues.5, h.queues.6⟩, h.attempt, h.table, h.limit, h.measure,
    h.share, hb, h.head, h.reports⟩

theorem EventOk.setHead (h : EventOk s) {b : HeadResetUnit} (ht : b.periodTimer = s.head.periodTimer)
    (hb : HeadOk (s.setHead b)) : EventOk (s.setHead b) := by
  obtain ⟨hjoin, hhold, hsafe, hpin, hcode, hlane, hcause, hvt, hht⟩ := h.mode
  exact ⟨h.config, ⟨hjoin, hhold, hsafe, hpin, hcode, hlane, hcause, hvt, by simpa [ht] using hht⟩,
    ⟨h.queues.1, h.queues.2, h.queues.3, h.queues.4, h.queues.5, h.queues.6⟩, h.attempt, h.table, h.limit, h.measure,
    h.share, h.valve, hb, h.reports⟩

theorem EventOk.setMeasure (h : EventOk s) {b : MeasurementUnit} (hb : MeasureOk (s.setMeasure b)) :
    EventOk (s.setMeasure b) :=
  ⟨h.config, h.mode, ⟨h.queues.1, h.queues.2, h.queues.3, h.queues.4, h.queues.5, h.queues.6⟩, h.attempt, h.table,
    h.limit, hb, h.share, h.valve, h.head, h.reports⟩

theorem EventOk.setCommand (h : EventOk s) (b : CommandHandler) : EventOk (s.setCommand b) :=
  ⟨h.config, h.mode, ⟨h.queues.1, h.queues.2, h.queues.3, h.queues.4, h.queues.5, h.queues.6⟩, h.attempt, h.table,
    h.limit, h.measure, h.share, h.valve, h.head, h.reports⟩

theorem EventOk.setCondition (h : EventOk s) {b : ConditionUnit}
    (hb : b.alarmDue = true → s.speaking = true → s.line.holdsAlarm = true) : EventOk (s.setCondition b) :=
  ⟨h.config, h.mode, ⟨h.queues.1, h.queues.2, h.queues.3, h.queues.4, h.queues.5, hb⟩, h.attempt, h.table,
    h.limit, h.measure, h.share, h.valve, h.head, h.reports⟩

theorem EventOk.sendDrive (h : EventOk s) (record : List Byte) : EventOk (s.sendDrive record) :=
  ⟨h.config, h.mode, ⟨h.queues.1, h.queues.2, h.queues.3, h.queues.4, h.queues.5, h.queues.6⟩, h.attempt, h.table,
    h.limit, h.measure, h.share, h.valve, h.head, h.reports⟩

theorem EventOk.markLatch (h : EventOk s) (l : Latch) : EventOk (markLatch l s) :=
  h.setCondition h.queues.alarmDue

theorem EventOk.noteDeparture (h : EventOk s) (e : TxEntry) : EventOk (noteDeparture e s) := h.setCommand _

end Updates

/-! ### What takeFirst and takeLast leave -/

theorem takeFirst_perm {α : Type} {p : α → Bool} {l others : List α} {a : α}
    (h : takeFirst p l = some (a, others)) : l.Perm (a :: others) := by
  induction l generalizing a others with
  | nil => simp [takeFirst] at h
  | cons x rest ih =>
    simp only [takeFirst] at h
    split at h
    · obtain ⟨rfl, rfl⟩ := by simpa using h
      exact .refl _
    · split at h
      next b others' hb =>
        obtain ⟨rfl, rfl⟩ := by simpa using h
        exact ((ih hb).cons x).trans (.swap _ _ _)
      next => exact nomatch h

theorem takeLast_perm {α : Type} {p : α → Bool} {l others : List α} {a : α}
    (h : takeLast p l = some (a, others)) : l.Perm (a :: others) := by
  simp only [takeLast] at h
  split at h
  next b others' hb =>
    obtain ⟨rfl, rfl⟩ := by simpa using h
    exact l.reverse_perm.symm.trans ((takeFirst_perm hb).trans (others'.reverse_perm.symm.cons b))
  next => exact nomatch h

/-- The arbiter's candidates: the chosen entry is taken out and the others stay (R158). -/
theorem nextEntry_perm {waiting others : List TxEntry} {e : TxEntry} (h : nextEntry waiting = some (e, others)) :
    waiting.Perm (e :: others) := by
  unfold nextEntry at h
  split at h
  next hr => exact takeFirst_perm (hr.trans h)
  next =>
    split at h
    next hr => exact takeFirst_perm (hr.trans h)
    next => exact takeFirst_perm h

/-- Of a list that holds an entry the arbiter chooses one (R158). -/
theorem nextEntry_eq_none {waiting : List TxEntry} (h : nextEntry waiting = none) : waiting = [] := by
  unfold nextEntry at h
  split at h
  next => exact nomatch h
  next halarm =>
    split at h
    next => exact nomatch h
    next hreply =>
      rw [takeFirst_eq_none, List.any_eq_false] at h halarm hreply
      rw [List.eq_nil_iff_forall_not_mem]
      intro e he
      have h1 := h e he
      have h2 := halarm e he
      have h3 := hreply e he
      cases e <;> simp_all [TxEntry.isAlarm, TxEntry.isReply, TxEntry.isReport]

/-! ### Latches by the mode (R148) -/

section LatchModes

variable {l : Latch} {s : State}

theorem speaking_or_joining_or_inactive (s : State) :
    s.speaking = true ∨ s.control.mode = .joining ∨ s.active = false := by
  cases hm : s.control.mode <;> simp [State.speaking, State.active, Mode.speaking, Mode.active, hm]

/-- In JOINING an urgent latch sets alarm-due (R148). -/
theorem setLatch_of_joining (hl : s.latched l = false) (hu : s.urgent l = true) (hm : s.control.mode = .joining) :
    setLatch l s = setAlarmDue true (markLatch l s) := by
  simp [setLatch, hl, hu, hm]

/-- In STARTING and UNCONFIGURED a latch is marked and calls for nothing (R148). -/
theorem setLatch_of_inactive (hl : s.latched l = false) (ha : s.active = false) : setLatch l s = markLatch l s := by
  cases hm : s.control.mode <;> simp_all [setLatch, State.active, Mode.active]

end LatchModes

/-! ### The Transmit Queue -/

theorem TxOk.perm {a b : List TxEntry} (h : TxOk a) (hp : a.Perm b) : TxOk b := by
  obtain ⟨hlen, hrep, hal⟩ := h
  exact ⟨hp.length_eq ▸ hlen, hp.countP_eq _ ▸ hrep, hp.countP_eq _ ▸ hal⟩

/-- A queue that holds no ALARM counts none. -/
theorem countP_isAlarm_of_not_holds {u : LineUnit} (h : u.holdsAlarm = false) :
    u.txEntries.countP TxEntry.isAlarm = 0 := by
  rw [List.countP_eq_zero]
  simpa [LineUnit.holdsAlarm] using h

theorem countP_isReport_of_not_holds {u : LineUnit} (h : u.holdsReport = false) :
    u.txEntries.countP TxEntry.isReport = 0 := by
  rw [List.countP_eq_zero]
  simpa [LineUnit.holdsReport] using h

/-- The Line Unit with other waiting entries, as the offers to the Transmit Queue make it (R157). -/
def LineUnit.withWaiting (u : LineUnit) (waiting : List TxEntry) : LineUnit := { u with waiting := waiting }

section Queue

variable {s : State}

/-- An exchange of the waiting entries in RUNNING and HOLD keeps the invariant if the queue keeps its bounds and its ALARM. -/
theorem EventOk.setWaiting (h : EventOk s) (hspeak : s.speaking = true) {waiting : List TxEntry}
    (htx : TxOk (s.line.inFlight.toList ++ waiting)) (hun : ∀ e ∈ waiting, e.started = false)
    (hal : s.line.holdsAlarm = true → (s.line.inFlight.toList ++ waiting).any TxEntry.isAlarm = true) :
    EventOk (s.setLine (s.line.withWaiting waiting)) :=
  h.setLine
    ⟨h.queues.rxBound, htx, hun, h.queues.rxRest, fun hs => by simp [hspeak] at hs,
      fun hdue hs => hal (h.queues.alarmDue hdue hs)⟩
    h.attempt

/-- An entry of its kind that is alone in the queue joins one with room (R157). -/
theorem EventOk.enqueue (h : EventOk s) (hspeak : s.speaking = true) {e : TxEntry} (hun : e.started = false)
    (hroom : s.line.txCount < 6) (hrep : e.isReport = true → s.line.holdsReport = false)
    (hal : e.isAlarm = true → s.line.holdsAlarm = false) : EventOk (enqueue e s) := by
  obtain ⟨-, hr, ha⟩ := h.queues.tx
  refine h.setWaiting hspeak ?_ ?_ ?_
  · rw [← List.append_assoc]
    change TxOk (s.line.txEntries ++ [e])
    refine ⟨by simpa [LineUnit.txCount] using hroom, ?_, ?_⟩
    · cases he : e.isReport with
      | false => simpa [he] using hr
      | true => simp [countP_isReport_of_not_holds (hrep he), he]
    · cases he : e.isAlarm with
      | false => simpa [he] using ha
      | true => simp [countP_isAlarm_of_not_holds (hal he), he]
  · intro x hx
    rcases List.mem_append.1 hx with hx | hx
    · exact h.queues.unstarted x hx
    · exact List.mem_singleton.1 hx ▸ hun
  · intro hh
    rw [← List.append_assoc, List.any_append]
    exact Bool.or_eq_true_iff.2 (.inl hh)

/-- An entry that takes the place of a waiting one of another kind (R157). -/
theorem EventOk.exchange (h : EventOk s) (hspeak : s.speaking = true) {e old : TxEntry} {others : List TxEntry}
    (hp : s.line.waiting.Perm (old :: others)) (hun : e.started = false) (hrep : e.isReport = false)
    (hold : old.isAlarm = false) (hal : e.isAlarm = true → s.line.holdsAlarm = false) :
    EventOk (s.setLine (s.line.withWaiting (others ++ [e]))) := by
  have hold_tx : TxOk (old :: (s.line.inFlight.toList ++ others)) :=
    h.queues.tx.perm ((hp.append_left _).trans List.perm_middle)
  have hnew : (s.line.inFlight.toList ++ (others ++ [e])).Perm (e :: (s.line.inFlight.toList ++ others)) := by
    rw [← List.append_assoc]
    exact List.perm_append_singleton _ _
  have hheld : s.line.holdsAlarm = (old :: (s.line.inFlight.toList ++ others)).any TxEntry.isAlarm :=
    ((hp.append_left _).trans List.perm_middle).any_eq
  refine h.setWaiting hspeak (TxOk.perm ?_ hnew.symm) ?_ ?_
  · obtain ⟨hlen, hr, ha⟩ := hold_tx
    refine ⟨by simpa using hlen, ?_, ?_⟩
    · rw [List.countP_cons] at hr ⊢
      simp only [hrep, Bool.false_eq_true, if_false]
      omega
    · rw [List.countP_cons] at ha ⊢
      cases he : e.isAlarm with
      | false => simpa [hold] using ha
      | true =>
        have hzero := hal he
        rw [hheld, List.any_cons, hold, Bool.false_or, List.any_eq_false] at hzero
        rw [List.countP_eq_zero.2 hzero]
        simp
  · intro x hx
    rcases List.mem_append.1 hx with hx | hx
    · exact h.queues.unstarted x (hp.mem_iff.2 (List.mem_cons_of_mem _ hx))
    · exact List.mem_singleton.1 hx ▸ hun
  · intro hh
    rw [hheld, List.any_cons, hold, Bool.false_or] at hh
    rw [hnew.any_eq, List.any_cons, hh, Bool.or_true]

theorem EventOk.setReportDue (h : EventOk s) (hspeak : s.speaking = true) (due : Bool) :
    EventOk (setReportDue due s) :=
  h.setReports ⟨h.reports.1, fun hs => by simp [hspeak] at hs⟩

/-- A waiting REPORT gives its place to a REPLY or an ALARM (R43, R157). -/
theorem EventOk.displaceReport (h : EventOk s) (hspeak : s.speaking = true) {e old : TxEntry} {others : List TxEntry}
    (hold : takeFirst TxEntry.isReport s.line.waiting = some (old, others)) (hun : e.started = false)
    (hrep : e.isReport = false) (hal : e.isAlarm = true → s.line.holdsAlarm = false) :
    EventOk (displaceReport others e s) := by
  have hkind : old.isAlarm = false := by
    have := (takeFirst_mem hold).2.1
    cases old <;> simp_all [TxEntry.isReport, TxEntry.isAlarm]
  exact (h.exchange hspeak (takeFirst_perm hold) hun hrep hkind hal).setReportDue hspeak true

theorem EventOk.countReplyLost (h : EventOk s) : EventOk (countReplyLost s) :=
  h.setLine ⟨h.queues.1, h.queues.2, h.queues.3, h.queues.4, h.queues.5, h.queues.6⟩ h.attempt

/-- An ALARM is offered to a queue that holds none (R148, R157). -/
theorem EventOk.offerAlarm (h : EventOk s) (hspeak : s.speaking = true) (hal : s.line.holdsAlarm = false) :
    EventOk (offerAlarm s) := by
  unfold Machine.offerAlarm
  split
  next hroom => exact h.enqueue hspeak rfl hroom (fun hr => nomatch hr) fun _ => hal
  next =>
    split
    next hold => exact h.displaceReport hspeak hold rfl rfl fun _ => hal
    next =>
      split
      next old others hold =>
        have hkind : old.isAlarm = false := by
          have := (takeLast_mem hold).2
          cases old <;> simp_all [TxEntry.isReply, TxEntry.isAlarm]
        exact (((h.exchange hspeak (takeLast_perm hold) rfl rfl hkind fun _ => hal).countReplyLost).markLatch _).noteDeparture _
      next => exact h

theorem EventOk.setAlarmDue (h : EventOk s) (hal : s.speaking = true → s.line.holdsAlarm = true) (due : Bool) :
    EventOk (setAlarmDue due s) := h.setCondition fun _ => hal

/-- Setting a latch keeps the invariant: alarm-due is set in JOINING or with an ALARM in the queue, and an ALARM is offered
to a queue that holds none (R148). -/
theorem EventOk.setLatch (h : EventOk s) (l : Latch) : EventOk (setLatch l s) := by
  have hmark := h.markLatch l
  cases hl : s.latched l with
  | true => rwa [setLatch_of_latched hl]
  | false =>
  cases hu : s.urgent l with
  | false => rwa [setLatch_of_not_urgent hl hu]
  | true =>
  rcases speaking_or_joining_or_inactive s with hs | hm | ha
  · rw [setLatch_of_urgent hl hu hs]
    split
    · exact hmark
    · split
      next hh => exact hmark.setAlarmDue (fun _ => by simpa using hh) true
      next hh => exact hmark.offerAlarm (by simpa using hs) (by simpa using hh)
  · rw [setLatch_of_joining hl hu hm]
    exact hmark.setAlarmDue (fun hs => by simp [State.speaking, Mode.speaking, hm] at hs) true
  · rwa [setLatch_of_inactive hl ha]

/-- A REPLY is offered in RUNNING or HOLD (R157). -/
theorem EventOk.offerReply (h : EventOk s) (hspeak : s.speaking = true) (r : Reply) : EventOk (offerReply r s) := by
  unfold Machine.offerReply
  split
  next hroom => exact h.enqueue hspeak rfl hroom (fun hr => nomatch hr) fun hr => nomatch hr
  next =>
    split
    next hold => exact h.displaceReport hspeak hold rfl rfl fun hr => nomatch hr
    next => exact (h.countReplyLost.setLatch _).noteDeparture _

/-- Report-due is set in RUNNING and HOLD only, so a report is queued there only (R31, R42). -/
theorem EventOk.speaking_of_reportDue (h : EventOk s) (hdue : s.reports.reportDue = true) : s.speaking = true := by
  by_contra hs
  rw [h.reports.2 (by simpa using hs)] at hdue
  exact nomatch hdue

theorem EventOk.queueReport (h : EventOk s) : EventOk (queueReport s) := by
  unfold Machine.queueReport
  split
  next hq =>
    simp only [Bool.and_eq_true] at hq
    obtain ⟨⟨hdue, -⟩, hacc⟩ := hq
    simp only [LineUnit.acceptsReport, Bool.and_eq_true, Bool.not_eq_true', decide_eq_true_eq] at hacc
    have hspeak := h.speaking_of_reportDue hdue
    have hset := h.setReports (b := { s.reports with
      reportDue := false
      intervalTimer := startSeconds s.config.reportInterval
      spacingTimer := startTenths s.config.minSpacing }) ⟨h.reports.1, fun hs => by simp [hspeak] at hs⟩
    exact hset.enqueue hspeak rfl hacc.2 (fun _ => hacc.1) fun hr => nomatch hr
  next => exact h

/-- The arbiter's choice keeps the invariant: the queue holds the same entries, and the holdoff is below the window (R158). -/
theorem EventOk.arbitrate (h : EventOk s) : EventOk (arbitrate s) := by
  unfold Machine.arbitrate
  split
  next => exact h
  next hfree =>
    split
    next e others hnext =>
      have hperm := nextEntry_perm hnext
      have htx : s.line.txEntries = s.line.waiting := by simp [LineUnit.txEntries, hfree]
      obtain ⟨-, -, -, -, -, hline, hsend, hidle, hrec, hrest, hsil, hiso⟩ := h.attempt
      have hbusy : ¬ (s.line.lineState = .ownTransmit ∨ s.line.lineState = .jam) := fun hl => by
        simpa [hfree] using hline hl
      refine h.setLine ⟨h.queues.rxBound, ?_, ?_, h.queues.rxRest, fun hs => ?_, fun hdue hs => ?_⟩ ?_
      · exact (htx ▸ h.queues.tx).perm hperm
      · exact fun x hx => h.queues.unstarted x (hperm.mem_iff.2 (List.mem_cons_of_mem _ hx))
      · have := htx ▸ h.queues.txRest hs
        rw [this] at hperm
        simp at hperm
      · have := h.queues.alarmDue hdue hs
        rw [LineUnit.holdsAlarm, htx, hperm.any_eq] at this
        exact this
      · refine ⟨by simp [drawHoldoff], by simp [drawHoldoff], by simp [drawHoldoff, Config.firstWindow], rfl, ?_,
          fun _ => rfl, hsend, hidle, hrec, hrest, hsil, hiso⟩
        simp only [State.setLine_line, drawHoldoff, Option.mem_some_iff]
        rintro k rfl
        exact Nat.mod_lt _ (by decide)
    next => exact h

end Queue

/-! ### Resets -/

theorem readStraps_code_le (p : StrapPins) : (readStraps p).code ≤ 7 := by
  have hlevel (l : Level) : Level.value l ≤ 1 := by cases l <;> decide
  have h2 := hlevel p.band2
  have h1 := hlevel p.band1
  have h0 := hlevel p.band0
  simp only [readStraps]
  omega

/-- A station whose blocks hold their reset values is safe in STARTING if Station Control is (R168). -/
theorem resetBlocks_setControl_stationOk (s : State) {c : StationControl} (hmode : c.mode = .starting)
    (hd : c.descriptor = none) (hb : c.driveBand = none) (hm : ModeOk ((resetBlocks s).setControl c)) :
    StationOk ((resetBlocks s).setControl c) := by
  refine ⟨?_, hm, ?_, ?_, ?_, ?_, ?_, ?_, ?_, ?_, ?_, ?_⟩
  · simp [ConfigOk, State.active, Mode.active, hmode, hd, hb]
  · simp [QueuesOk, resetBlocks, LineUnit.atReset, LineUnit.txCount, LineUnit.txEntries, ConditionUnit.atReset]
  · simp [AttemptOk, resetBlocks, LineUnit.atReset, ReceiverOk, State.active, Mode.active, hmode, Timer.isRunning]
  · simp [TableOk, resetBlocks, PeerTable.atReset]
  · simp [LimitOk, resetBlocks, LimitUnit.atReset, ActiveOk, ShedOk, Timer.isRunning, ActiveBlock.isRunning,
      LimitUnit.shedInForce]
  · refine ⟨fun n => ?_, rfl, by simp [resetBlocks, MeasurementUnit.atReset], fun n _ => ?_,
      by simp [State.active, Mode.active, hmode], fun _ => rfl⟩
    · cases n <;> simp [resetBlocks, MeasurementUnit.atReset, Fields.get, Fields.atReset, Field.atReset, FieldOk,
        Timer.isRunning]
    · cases n <;> rfl
  · simp [ShareOk, resetBlocks, ShareEngine.atReset, AllocationRecord.atReset]
  · simp [ValveOk, resetBlocks, State.isTransfer, hd]
  · simp [HeadOk, resetBlocks, State.isPlant, hd]
  · simp [CountersOk, resetBlocks, LineUnit.atReset, PeerTable.atReset, CommandHandler.atReset]
  · simp [ReportsOk, resetBlocks, ReportScheduler.atReset]

/-- A reset by the pin leaves a safe station (R168). -/
theorem resetBlocks_stationOk (s : State) : StationOk (resetBlocks s) :=
  resetBlocks_setControl_stationOk s rfl rfl rfl ⟨rfl, rfl, rfl, fun _ => ⟨rfl, rfl⟩, Nat.zero_le 7, rfl,
    fun _ => rfl, rfl, rfl, rfl⟩

/-- The reset of a RESTART leaves a safe station (R167, R168). -/
theorem restartReset_stationOk (s : State) : StationOk (restartReset s) :=
  resetBlocks_setControl_stationOk s rfl rfl rfl ⟨rfl, rfl, rfl, fun h => absurd h Bool.false_ne_true,
    readStraps_code_le _, rfl, fun _ => rfl, rfl, rfl, rfl⟩

/-- Settles O3: the state after power-up is that of a reset by the pin. -/
theorem powerUpIsSafe : Obligations.PowerUpIsSafe := resetBlocks_stationOk State.reset

/-! ### The end of an event -/

/-- After the arbiter's choice no entry waits without one in flight (R158). -/
theorem waiting_eq_nil_of_arbitrate {s : State} (h : (arbitrate s).line.inFlight = none) :
    (arbitrate s).line.waiting = [] := by
  revert h
  unfold arbitrate
  split
  next hin => simp [hin]
  next =>
    split
    next => exact fun h => nomatch h
    next hnone => exact fun _ => nextEntry_eq_none hnone

/-- The end of an event makes a safe station of one that meets the invariant inside it. -/
theorem EventOk.stationOk_settle {s : State} (h : EventOk s) (hc : CountersOk (settle s)) : StationOk (settle s) := by
  cases hdue : s.command.restartDue with
  | true =>
    have hsettle : settle s = restartReset s := by simp [settle, hdue]
    exact hsettle ▸ restartReset_stationOk s
  | false =>
    have hsettle : settle s = Machine.arbitrate s := by simp [settle, hdue]
    rw [hsettle] at hc ⊢
    exact h.arbitrate.stationOk ⟨by simpa using hdue, waiting_eq_nil_of_arbitrate⟩ hc

end Sys2Proof.Machine
end

section
/-! The invariant at the Line Unit (spec/09): events of the line and of the receiver keep the attempt of the own entry, and
attempts and departures keep the queue. -/

namespace Sys2Proof.Machine

/-! ### Events at a station that hears the line -/

/-- The Transmit Queue, the attempt and the draws stand in v as in u. -/
def SameAttempt (u v : LineUnit) : Prop :=
  v.waiting = u.waiting ∧ v.inFlight = u.inFlight ∧ v.attempts = u.attempts ∧ v.window = u.window
    ∧ v.holdoff = u.holdoff ∧ v.sending = u.sending

section Hearing

variable {s : State}

/-- The station hears the line in JOINING, RUNNING and HOLD while it neither sends nor jams (R152). -/
theorem hears_iff : s.hears = true ↔ s.active = true ∧ (s.line.lineState = .idle ∨ s.line.lineState = .busy) := by
  simp [State.hears]

/-- An update of the receiver's side of the Line Unit. -/
theorem EventOk.setHearing (h : EventOk s) (hears : s.hears = true) {u : LineUnit} (hsame : SameAttempt s.line u)
    (hrec : ReceiverOk u.lineState u.receiver)
    (hline : (u.lineState = .idle ∧ u.receiver = .testing) ∨ u.lineState = .busy)
    (hsil : u.silenceTimer.isRunning = !u.isolated) (hrx : u.rxQueue.length ≤ 8) : EventOk (s.setLine u) := by
  obtain ⟨hwait, hin, hatt, hwin, hhold, hsend⟩ := hsame
  obtain ⟨hact, hwas⟩ := hears_iff.1 hears
  obtain ⟨ha8, hjam, hw, hh, hdraw, -, hown, -⟩ := h.attempt
  have hnot8 : s.line.attempts ≠ 8 := fun h8 => by
    rcases hwas with hw' | hw' <;> simp [hjam h8] at hw'
  have hquiet : s.line.sending = [] := by
    by_contra hne
    rcases hwas with hw' | hw' <;> simp [hown.2 hne] at hw'
  have htx : u.txEntries = s.line.txEntries := by simp [LineUnit.txEntries, hwait, hin]
  have hnow : u.lineState ≠ .ownTransmit ∧ u.lineState ≠ .jam := by
    rcases hline with ⟨hl, -⟩ | hl <;> simp [hl]
  have hidle : u.lineState = .idle → u.receiver = .testing := fun hi => by
    rcases hline with ⟨-, hr⟩ | hl
    · exact hr
    · simp [hl] at hi
  refine h.setLine
    ⟨hrx, htx ▸ h.queues.tx, hwait ▸ h.queues.unstarted, fun hs => by simp [hact] at hs,
      fun hs => by simpa [htx] using h.queues.txRest hs, fun hdue hs => ?_⟩
    ⟨by simpa [hatt] using ha8, fun h8 => absurd (by simpa [hatt] using h8) hnot8, by simpa [hwin] using hw,
      by simpa [hhold, hin] using hh, by simpa [hhold, hwin] using hdraw, fun hl => ?_, ?_, by simpa using hidle,
      by simpa using hrec, fun hs => by simp [hact] at hs, by simp [hact, hsil], fun hs => by simp [hact] at hs⟩
  · simpa [LineUnit.holdsAlarm, htx] using h.queues.alarmDue hdue hs
  · simp [hnow] at hl
  · simp [hnow, hsend, hquiet]

/-- The silence timer runs in JOINING, RUNNING and HOLD exactly while the station is not ISOLATED (R161). -/
theorem EventOk.silence (h : EventOk s) (hact : s.active = true) :
    s.line.silenceTimer.isRunning = !s.line.isolated := by
  obtain ⟨-, -, -, -, -, -, -, -, -, -, hsil, -⟩ := h.attempt
  simpa [hact] using hsil

theorem EventOk.receiver (h : EventOk s) : ReceiverOk s.line.lineState s.line.receiver := by
  obtain ⟨-, -, -, -, -, -, -, -, hrec, -⟩ := h.attempt
  exact hrec

theorem EventOk.receiver_of_idle (h : EventOk s) (hidle : s.line.lineState = .idle) : s.line.receiver = .testing := by
  obtain ⟨-, -, -, -, -, -, -, htest, -⟩ := h.attempt
  exact htest hidle

/-- A frame is gathered while the line is BUSY only, so what is gathered stands there too (R152). -/
theorem ReceiverOk.busy {l : LineState} {r : Receiver} (h : ReceiverOk l r) : ReceiverOk .busy r := by
  cases r with
  | gathering groups => exact ⟨rfl, h.2⟩
  | testing | skipping => trivial

theorem EventOk.startBitHeard (h : EventOk s) : EventOk (startBitHeard s) := by
  unfold Machine.startBitHeard
  split
  next hears =>
    exact h.setHearing hears ⟨rfl, rfl, rfl, rfl, rfl, rfl⟩ h.receiver.busy (.inr rfl)
      (h.silence (hears_iff.1 hears).1) h.queues.rxBound
  next => exact h

/-- A station that is hearing may drop the frame in progress. -/
theorem EventOk.skipFrame (h : EventOk s) (hears : s.hears = true) (hbusy : s.line.lineState = .busy) (n : Nat) :
    EventOk (s.setLine { s.line with receiver := .skipping, damagedFrames := n }) :=
  h.setHearing hears ⟨rfl, rfl, rfl, rfl, rfl, rfl⟩ trivial (.inr hbusy) (h.silence (hears_iff.1 hears).1)
    h.queues.rxBound

theorem EventOk.discardFrame (h : EventOk s) (hears : s.hears = true) (hbusy : s.line.lineState = .busy) :
    EventOk (discardFrame s) := (h.skipFrame hears hbusy _).setLatch _

theorem EventOk.lineIdle (h : EventOk s) : EventOk (lineIdle s) := by
  have toIdle {u : State} (hu : EventOk u) (hears : u.hears = true) :
      EventOk (u.setLine { u.line with lineState := .idle, receiver := .testing }) :=
    hu.setHearing hears ⟨rfl, rfl, rfl, rfl, rfl, rfl⟩ trivial (.inl ⟨rfl, rfl⟩) (hu.silence (hears_iff.1 hears).1)
      hu.queues.rxBound
  unfold Machine.lineIdle
  split
  next hline =>
    obtain ⟨hact, hbusy⟩ : s.active = true ∧ s.line.lineState = .busy := by simpa using hline
    have hears : s.hears = true := hears_iff.2 ⟨hact, .inr hbusy⟩
    dsimp only
    split
    · exact toIdle (h.discardFrame hears hbusy)
        (hears_iff.2 ⟨by simpa [Machine.discardFrame] using hact, .inr (by simpa [Machine.discardFrame] using hbusy)⟩)
    · exact toIdle h hears
  next => exact h

theorem EventOk.breakDetected (h : EventOk s) (fromOwnJam : Bool) : EventOk (breakDetected fromOwnJam s) := by
  unfold Machine.breakDetected
  split
  next hb =>
    obtain ⟨hears, -⟩ := Bool.and_eq_true_iff.1 hb
    refine h.setHearing hears ⟨rfl, rfl, rfl, rfl, rfl, rfl⟩ ?_ (.inr rfl) (h.silence (hears_iff.1 hears).1)
      h.queues.rxBound
    cases hr : s.line.receiver <;> simp [Receiver.inFrame, ReceiverOk]
  next => exact h

theorem EventOk.markerReceived (h : EventOk s) (character : Byte) : EventOk (markerReceived character s) := by
  unfold Machine.markerReceived
  split
  next hb =>
    obtain ⟨hears, -⟩ := Bool.and_eq_true_iff.1 hb
    refine h.setHearing hears ⟨rfl, rfl, rfl, rfl, rfl, rfl⟩ ?_ (.inr rfl) (h.silence (hears_iff.1 hears).1)
      h.queues.rxBound
    dsimp only
    split
    · exact ⟨rfl, trivial⟩
    · trivial
  next => exact h

theorem EventOk.silenceTimerExpiry (h : EventOk s) : EventOk (silenceTimerExpiry s) := by
  unfold Machine.silenceTimerExpiry
  split
  next hrun =>
    obtain ⟨ha8, hjam, hw, hh, hdraw, hin, hown, hidle, hrec, hrest, hsil, -⟩ := h.attempt
    have hact : s.active = true := by
      rw [hrun] at hsil
      exact (Bool.and_eq_true_iff.1 hsil.symm).1
    exact h.setLine ⟨h.queues.1, h.queues.2, h.queues.3, h.queues.4, h.queues.5, h.queues.6⟩
      ⟨ha8, hjam, hw, hh, hdraw, hin, hown, hidle, hrec, hrest, by simp [Timer.isRunning],
        fun hs => by simp [hact] at hs⟩
  next => exact h

/-! ### Groups and frames (R153 to R156) -/

/-- A frame in progress is heard on a BUSY line. -/
theorem EventOk.busy_of_gathering (h : EventOk s) {groups : List Group} (hr : s.line.receiver = .gathering groups) :
    s.line.lineState = .busy := by
  have hrec := h.receiver
  rw [hr] at hrec
  exact hrec.1

/-- What a group that completes can bring about, but nothing, comes to a frame in progress. -/
theorem gathering_of_groupStep {u : LineUnit} {raw : RawGroup} (h : groupStep u raw ≠ .ignored) :
    ∃ groups, u.receiver = .gathering groups := by
  unfold groupStep at h
  cases hr : u.receiver <;> simp_all

/-- A group that leaves a frame incomplete keeps the groups gathered those of an incomplete frame (R153, R154). -/
theorem GroupsOk.judge {corrected c : Bool} {groups gathered : List Group} {g : Group} (h : GroupsOk groups)
    (hj : judgeGroups corrected (groups ++ [g]) = .gathered c gathered) : GroupsOk gathered := by
  match groups, h with
  | [], _ =>
    obtain ⟨-, rfl⟩ : corrected = c ∧ [g] = gathered := by simpa [judgeGroups] using hj
    trivial
  | [h1], _ =>
    simp only [List.cons_append, List.nil_append, judgeGroups, List.isEmpty_nil, Bool.true_and] at hj
    split at hj
    · exact nomatch hj
    next hvalid =>
      split at hj
      · exact nomatch hj
      next hmore =>
        obtain ⟨-, rfl⟩ := by simpa using hj
        exact ⟨by simpa using hvalid, Nat.lt_of_not_le hmore⟩
  | h1 :: h2 :: body, ⟨hvalid, _⟩ =>
    simp only [List.cons_append, judgeGroups, hvalid, Bool.and_false, Bool.false_eq_true, if_false] at hj
    split at hj
    · exact nomatch hj
    next hmore =>
      obtain ⟨-, rfl⟩ := by simpa using hj
      exact ⟨hvalid, by omega⟩

/-- What a completed group leaves gathered belongs to a frame that is not complete (R153, R154). -/
theorem EventOk.gathered_groupsOk (h : EventOk s) {raw : RawGroup} {c : Bool} {gathered : List Group}
    (hg : groupStep s.line raw = .gathered c gathered) : GroupsOk gathered := by
  obtain ⟨groups, hr⟩ := gathering_of_groupStep (u := s.line) (raw := raw) (by simp [hg])
  have hrec := h.receiver
  rw [hr] at hrec
  unfold groupStep at hg
  simp only [hr] at hg
  split at hg
  · exact hrec.2.judge hg
  · exact hrec.2.judge hg
  · exact nomatch hg

theorem EventOk.countCorrected (h : EventOk s) (corrected : Bool) : EventOk (countCorrected corrected s) := by
  cases corrected
  · exact h
  · exact h.setLine ⟨h.queues.1, h.queues.2, h.queues.3, h.queues.4, h.queues.5, h.queues.6⟩ h.attempt

@[simp] theorem countCorrected_lineState (corrected : Bool) :
    (countCorrected corrected s).line.lineState = s.line.lineState := by
  cases corrected <;> rfl

@[simp] theorem countCorrected_control (corrected : Bool) : (countCorrected corrected s).control = s.control := by
  cases corrected <;> rfl

theorem hears_of_same {t : State} (hc : t.control = s.control) (hl : t.line.lineState = s.line.lineState) :
    t.hears = s.hears := by
  simp [State.hears, State.active, hc, hl]

theorem EventOk.groupComplete (h : EventOk s) (raw : RawGroup) : EventOk (groupComplete raw s) := by
  unfold Machine.groupComplete
  split
  next hears =>
    split
    next corrected groups hg =>
      obtain ⟨before, hr⟩ := gathering_of_groupStep (u := s.line) (raw := raw) (by simp [hg])
      have hbusy := h.busy_of_gathering hr
      exact (h.setHearing (u := { s.line with receiver := .gathering groups }) hears
        ⟨rfl, rfl, rfl, rfl, rfl, rfl⟩ ⟨hbusy, h.gathered_groupsOk hg⟩ (.inr hbusy)
        (h.silence (hears_iff.1 hears).1) h.queues.rxBound).countCorrected _
    next => exact h
    next => exact h
    next => exact h
  next => exact h

theorem EventOk.frameDiscarded (h : EventOk s) (raw : RawGroup) : EventOk (frameDiscarded raw s) := by
  unfold Machine.frameDiscarded
  split
  next hears =>
    split
    next hg =>
      obtain ⟨before, hr⟩ := gathering_of_groupStep (u := s.line) (raw := raw) (by simp [hg])
      exact (h.countCorrected _).discardFrame ((hears_of_same (by simp) (by simp)).trans hears)
        (by simpa using h.busy_of_gathering hr)
    next => exact h
    next => exact h
    next => exact h
  next => exact h

/-- A good frame joins the Receive Queue of a station that is hearing, or is lost (R156). -/
theorem EventOk.offerFrame (h : EventOk s) (hact : s.active = true) (f : Frame) : EventOk (offerFrame f s) := by
  unfold Machine.offerFrame
  split
  next hroom =>
    simp only [Config.rxCapacity] at hroom
    exact h.setLine ⟨by simpa using hroom, h.queues.2, h.queues.3, fun hs => by simp [hact] at hs, h.queues.5,
      h.queues.6⟩ h.attempt
  next =>
    exact (h.setLine (u := { s.line with rxOverruns := countUp s.line.rxOverruns })
      ⟨h.queues.1, h.queues.2, h.queues.3, h.queues.4, h.queues.5, h.queues.6⟩ h.attempt).setLatch _

/-- A well-formed frame restarts silence, and a good one is counted and offered (R155, R161). -/
theorem EventOk.receiveFrame (h : EventOk s) (hact : s.active = true) (f : Frame) : EventOk (receiveFrame f s) := by
  obtain ⟨ha8, hjam, hw, hh, hdraw, hin, hown, hidle, hrec, hrest, -, -⟩ := h.attempt
  have hheard (n : Nat) : EventOk (s.setLine
      { s.line with silenceTimer := startSeconds s.config.silenceTime, isolated := false, goodFrames := n }) :=
    h.setLine ⟨h.queues.1, h.queues.2, h.queues.3, h.queues.4, h.queues.5, h.queues.6⟩
      ⟨ha8, hjam, hw, hh, hdraw, hin, hown, hidle, hrec, hrest, by simp [Timer.isRunning, hact, startSeconds],
        fun _ => rfl⟩
  unfold Machine.receiveFrame
  dsimp only
  split
  · exact hheard _
  · split
    · exact hheard _
    · split
      · exact hheard _
      · exact (hheard _).offerFrame hact f

theorem EventOk.frameReceived (h : EventOk s) (raw : RawGroup) : EventOk (frameReceived raw s) := by
  unfold Machine.frameReceived
  split
  next hears =>
    split
    next corrected f hg =>
      obtain ⟨before, hr⟩ := gathering_of_groupStep (u := s.line) (raw := raw) (by simp [hg])
      have hc := h.countCorrected corrected
      have hhears : (Machine.countCorrected corrected s).hears = true :=
        (hears_of_same (by simp) (by simp)).trans hears
      have hact := (hears_iff.1 hhears).1
      exact (hc.skipFrame hhears (by simpa using h.busy_of_gathering hr) _).receiveFrame hact f
    next => exact h
    next => exact h
    next => exact h
  next => exact h

end Hearing

/-! ### Attempts (R159, R160) -/

section Attempts

variable {s : State}

/-- Any frame has its marker, so a frame on the line has characters to send. -/
theorem characters_ne_nil (f : Frame) : f.characters ≠ [] := List.cons_ne_nil _ _

/-- The in-flight entry goes on an IDLE line, with what its first attempt start gives it (R159). -/
theorem EventOk.sendFrame (h : EventOk s) (hidle : s.line.lineState = .idle) {old e : TxEntry} (f : Frame)
    (hold : s.line.inFlight = some old) (hrep : e.isReport = old.isReport) (hal : e.isAlarm = old.isAlarm) :
    EventOk (sendFrame e f s) := by
  obtain ⟨ha8, hjam, hw, hh, hdraw, -, -, htest, hrec, hrest, hsil, hiso⟩ := h.attempt
  have htx : s.line.txEntries = old :: s.line.waiting := by simp [LineUnit.txEntries, hold]
  have hact : s.active = true := by
    by_contra hs
    simpa [hidle] using (hrest (by simpa using hs)).1
  have hspeak : s.speaking = true := by
    by_contra hs
    simpa [htx] using h.queues.txRest (by simpa using hs)
  refine h.setLine ⟨h.queues.rxBound, ?_, h.queues.unstarted, h.queues.rxRest, fun hs => by simp [hspeak] at hs,
      fun hdue hs => ?_⟩
    ⟨ha8, fun h8 => by simpa [hidle] using hjam h8, hw, ?_, hdraw, fun _ => rfl, ?_, nofun, ?_,
      fun hs => by simp [hact] at hs, hsil, hiso⟩
  · obtain ⟨hlen, hr, ha⟩ := htx ▸ h.queues.tx
    exact ⟨hlen, by simpa [LineUnit.txEntries, List.countP_cons, hrep] using hr,
      by simpa [LineUnit.txEntries, List.countP_cons, hal] using ha⟩
  · have := h.queues.alarmDue hdue hs
    rw [LineUnit.holdsAlarm, htx] at this
    simpa [LineUnit.holdsAlarm, LineUnit.txEntries, hal] using this
  · simpa [hold] using hh
  · simpa using characters_ne_nil f
  · have := htest hidle
    simp [this, ReceiverOk]

theorem EventOk.numberReport (h : EventOk s) (hspeak : s.speaking = true) : EventOk (numberReport s) :=
  h.setReports ⟨(Nat.sub_le _ _).trans h.reports.1, fun hs => by simp [hspeak] at hs⟩

theorem EventOk.attemptStart (h : EventOk s) : EventOk (attemptStart s) := by
  unfold Machine.attemptStart
  split
  next e hin =>
    split
    next hline =>
      obtain ⟨hspeak, hidle⟩ : s.speaking = true ∧ s.line.lineState = .idle := by simpa using hline
      unfold startAttempt
      split
      next => exact h.sendFrame hidle _ hin rfl rfl
      next => exact (h.numberReport hspeak).sendFrame hidle _ hin rfl rfl
      next => exact h.sendFrame hidle _ hin rfl rfl
      next => exact (h.setCondition (b := { s.condition with alarmSequence := s.condition.alarmSequence + 1#8 })
        h.queues.alarmDue).sendFrame hidle _ hin rfl rfl
      next => exact h.sendFrame hidle _ hin rfl rfl
    next => exact h
  next => exact h

theorem EventOk.collision (h : EventOk s) : EventOk (collision s) := by
  unfold Machine.collision
  split
  next hline =>
    obtain ⟨hown, hin⟩ : s.line.lineState = .ownTransmit ∧ s.line.inFlight.isSome = true := by simpa using hline
    obtain ⟨ha8, hjam, hw, hh, hdraw, -, -, -, hrec, hrest, hsil, hiso⟩ := h.attempt
    have hnot8 : s.line.attempts ≠ 8 := fun h8 => by simpa [hown] using hjam h8
    refine h.setLine ⟨h.queues.1, h.queues.2, h.queues.3, h.queues.4, h.queues.5, h.queues.6⟩
      ⟨by simp; omega, fun _ => rfl, hw, hh, hdraw, fun _ => hin, by simp, nofun, ?_, fun hs => ?_, hsil, hiso⟩
    · rw [hown] at hrec
      cases hr : s.line.receiver with
      | gathering groups => simp [hr, ReceiverOk] at hrec
      | testing | skipping => simp [hr, ReceiverOk]
    · simpa [hown] using (hrest hs).1
  next => exact h

/-- After a jam of fewer than eight attempts the entry waits again with a doubled window (R160). -/
theorem EventOk.retry (h : EventOk s) (hjam : s.line.lineState = .jam) (hfew : s.line.attempts < 8) :
    EventOk (s.setLine (drawHoldoff
      { s.line with lineState := .busy, window := min (2 * s.line.window) Config.lastWindow })) := by
  obtain ⟨ha8, -, hw, hh, -, hin, hown, -, hrec, hrest, hsil, hiso⟩ := h.attempt
  have hwin : min (2 * s.line.window) Config.lastWindow ∈ [8, 16, 32, 64, 128] := by
    simp only [List.mem_cons, List.not_mem_nil, or_false] at hw
    rcases hw with hw | hw | hw | hw | hw <;> simp [hw, Config.lastWindow]
  refine h.setLine ⟨h.queues.1, h.queues.2, h.queues.3, h.queues.4, h.queues.5, h.queues.6⟩
    ⟨ha8, fun h8 => ?_, hwin, ?_, ?_, fun _ => hin (.inr hjam), ?_, nofun, hrec.busy, fun hs => ⟨rfl, (hrest hs).2⟩,
      hsil, hiso⟩
  · simp only [State.setLine_line, drawHoldoff] at h8
    omega
  · simp [drawHoldoff, hin (.inr hjam)]
  · simp only [State.setLine_line, drawHoldoff, Option.mem_some_iff]
    rintro k rfl
    refine Nat.mod_lt _ ?_
    simp only [List.mem_cons, List.not_mem_nil, or_false] at hwin
    omega
  · have hs : s.line.sending = [] := by
      by_contra hne
      simpa [hjam] using hown.2 hne
    simp [drawHoldoff, hs]

end Attempts
end Sys2Proof.Machine
end

section
/-! The invariant at a departure (R44, R149, R158, R160). Until the departure's ALARM is offered alarm-due may be set with no
ALARM in the queue, and a latch set before the departure of an abandoned entry finds eight attempts on a BUSY line; both are
removed by taking alarm-due, or the attempt count, out of the state first. -/

namespace Sys2Proof.Machine

/-! ### An offered ALARM by the queue (R157) -/

section OfferAlarm

variable {s : State}

theorem offerAlarm_of_room (hroom : s.line.txCount < 6) : offerAlarm s = enqueue (.alarm none) s := if_pos hroom

theorem offerAlarm_of_report (hfull : ¬ s.line.txCount < 6) {old : TxEntry} {others : List TxEntry}
    (hold : takeFirst TxEntry.isReport s.line.waiting = some (old, others)) :
    offerAlarm s = displaceReport others (.alarm none) s := by
  simp [offerAlarm, Config.txCapacity, hfull, hold]

theorem offerAlarm_of_reply (hfull : ¬ s.line.txCount < 6) (hnone : takeFirst TxEntry.isReport s.line.waiting = none)
    {old : TxEntry} {others : List TxEntry} (hold : takeLast TxEntry.isReply s.line.waiting = some (old, others)) :
    offerAlarm s = noteDeparture old (markLatch .replyLost
      (countReplyLost (s.setLine { s.line with waiting := others ++ [.alarm none] }))) := by
  simp [offerAlarm, Config.txCapacity, hfull, hnone, hold]

theorem offerAlarm_of_none (hfull : ¬ s.line.txCount < 6) (hrep : takeFirst TxEntry.isReport s.line.waiting = none)
    (hreply : takeLast TxEntry.isReply s.line.waiting = none) : offerAlarm s = s := by
  simp [offerAlarm, Config.txCapacity, hfull, hrep, hreply]

end OfferAlarm

/-! ### Alarm-due and the attempt count beside the queue -/

/-- The attempt count taken out of the state: no operation on the queue reads it, and a departure leaves it at 0 (log 8). -/
def restAttempts (s : State) : State := s.setLine { s.line with attempts := 0 }

section Commute

variable (s : State)

theorem arbitrate_setAlarmDue (due : Bool) : arbitrate (setAlarmDue due s) = setAlarmDue due (arbitrate s) := by
  unfold arbitrate
  simp only [setAlarmDue_frame]
  split
  · rfl
  · split <;> rfl

theorem queueReport_setAlarmDue (due : Bool) : queueReport (setAlarmDue due s) = setAlarmDue due (queueReport s) := by
  unfold queueReport
  simp only [setAlarmDue_frame]
  split <;> rfl

theorem offerAlarm_restAttempts : offerAlarm (restAttempts s) = restAttempts (offerAlarm s) := by
  by_cases hroom : s.line.txCount < 6
  · rw [offerAlarm_of_room hroom, offerAlarm_of_room (s := restAttempts s) hroom]
    rfl
  · cases hrep : takeFirst TxEntry.isReport s.line.waiting with
    | some q =>
      rw [offerAlarm_of_report hroom hrep, offerAlarm_of_report (s := restAttempts s) hroom hrep]
      rfl
    | none =>
      cases hreply : takeLast TxEntry.isReply s.line.waiting with
      | some q =>
        rw [offerAlarm_of_reply hroom hrep hreply, offerAlarm_of_reply (s := restAttempts s) hroom hrep hreply]
        rfl
      | none =>
        rw [offerAlarm_of_none hroom hrep hreply, offerAlarm_of_none (s := restAttempts s) hroom hrep hreply]

theorem setLatch_restAttempts (l : Latch) : setLatch l (restAttempts s) = restAttempts (setLatch l s) := by
  cases hl : s.latched l with
  | true => rw [setLatch_of_latched hl, setLatch_of_latched (s := restAttempts s) hl]
  | false =>
  cases hu : s.urgent l with
  | false =>
    rw [setLatch_of_not_urgent hl hu, setLatch_of_not_urgent (s := restAttempts s) hl hu]
    rfl
  | true =>
  rcases speaking_or_joining_or_inactive s with hs | hm | ha
  · rw [setLatch_of_urgent hl hu hs, setLatch_of_urgent (s := restAttempts s) hl hu hs]
    change (if s.line.absorbsAlarm = true then _ else if s.line.holdsAlarm = true then _ else _) = _
    split
    · rfl
    · split
      · rfl
      · exact offerAlarm_restAttempts (markLatch l s)
  · rw [setLatch_of_joining hl hu hm, setLatch_of_joining (s := restAttempts s) hl hu hm]
    rfl
  · rw [setLatch_of_inactive hl ha, setLatch_of_inactive (s := restAttempts s) hl ha]
    rfl

/-- A departure does not read the attempt count of the entry that departs (R160). -/
theorem depart_restAttempts (abandoned : Bool) (choice : ChoiceOrder) (order : OfferOrder) {e : TxEntry}
    (h : s.line.inFlight = some e) : depart abandoned choice order (restAttempts s) = depart abandoned choice order s := by
  have h' : (restAttempts s).line.inFlight = some e := h
  unfold depart
  rw [h, h']
  rfl

theorem abandon_restAttempts (choice : ChoiceOrder) (order : OfferOrder) {e : TxEntry}
    (h : s.line.inFlight = some e) : abandon choice order (restAttempts s) = abandon choice order s := by
  cases choice with
  | choiceFirst | offersFirst => exact depart_restAttempts s true _ order h
  | latchFirst =>
    simp only [abandon, setLatch_restAttempts]
    exact depart_restAttempts _ false _ order (by simpa using h)

end Commute

/-! ### The departure -/

section Departure

variable {s : State}

/-- The further ALARM of R149 joins a queue that holds none. -/
theorem EventOk.offerDueAlarm (h : EventOk (Machine.setAlarmDue false s)) (hspeak : s.speaking = true)
    (hal : s.line.holdsAlarm = false) : EventOk (Machine.offerDueAlarm s) := by
  unfold Machine.offerDueAlarm
  split
  · exact h.offerAlarm (by simpa using hspeak) (by simpa using hal)
  next hdue =>
    have hsame : Machine.setAlarmDue false s = s := by
      have hfalse : s.condition.alarmDue = false := by simpa using hdue
      simp [Machine.setAlarmDue, State.setCondition, ← hfalse]
    rwa [hsame] at h

/-- What the departure of an ALARM makes the Condition Unit offer; the queue holds no other ALARM. -/
theorem EventOk.departureAlarm_of_alarm (h : EventOk (Machine.setAlarmDue false s)) (hspeak : s.speaking = true)
    (hal : s.line.holdsAlarm = false) (abandoned : Bool) {e : TxEntry} (he : e.isAlarm = true) :
    EventOk (departureAlarm abandoned e s) := by
  have hdue := h.offerDueAlarm hspeak hal
  cases abandoned
  · simpa [departureAlarm, he, hspeak] using hdue
  · simpa [departureAlarm, he, hspeak] using hdue.setLatch _

theorem EventOk.departureAlarm_of_not_alarm (h : EventOk s) (abandoned : Bool) {e : TxEntry} (he : e.isAlarm = false) :
    EventOk (departureAlarm abandoned e s) := by
  cases abandoned
  · simpa [departureAlarm, he] using h
  · simpa [departureAlarm, he] using h.setLatch _

/-- The arbiter moves entries within the queue. -/
theorem arbitrate_txEntries_perm (s : State) : (arbitrate s).line.txEntries.Perm s.line.txEntries := by
  unfold arbitrate
  split
  next => exact .refl _
  next hfree =>
    split
    next hnext =>
      simpa [LineUnit.txEntries, hfree, drawHoldoff] using (nextEntry_perm hnext).symm
    next => exact .refl _

@[simp] theorem arbitrate_holdsAlarm (s : State) : (arbitrate s).line.holdsAlarm = s.line.holdsAlarm :=
  (arbitrate_txEntries_perm s).any_eq

@[simp] theorem queueReport_holdsAlarm (s : State) : (queueReport s).line.holdsAlarm = s.line.holdsAlarm := by
  unfold queueReport
  split <;> simp [enqueue, LineUnit.holdsAlarm, LineUnit.txEntries, TxEntry.isAlarm]

/-- The orders of a departure's offers and choice, for a departing ALARM: alarm-due is taken out of the state until its
ALARM is offered. -/
theorem EventOk.departOrders_of_alarm (h : EventOk (Machine.setAlarmDue false s)) (hspeak : s.speaking = true)
    (hal : s.line.holdsAlarm = false) (abandoned : Bool) {e : TxEntry} (he : e.isAlarm = true) :
    EventOk (departureAlarm abandoned e s) ∧ EventOk (departureAlarm abandoned e (Machine.arbitrate s))
      ∧ EventOk (departureAlarm abandoned e (Machine.queueReport s))
      ∧ EventOk (departureAlarm abandoned e (Machine.arbitrate (Machine.queueReport (Machine.arbitrate s)))) := by
  have harb {u : State} (hu : EventOk (Machine.setAlarmDue false u)) :
      EventOk (Machine.setAlarmDue false (Machine.arbitrate u)) := arbitrate_setAlarmDue u false ▸ hu.arbitrate
  have hrep {u : State} (hu : EventOk (Machine.setAlarmDue false u)) :
      EventOk (Machine.setAlarmDue false (Machine.queueReport u)) := queueReport_setAlarmDue u false ▸ hu.queueReport
  exact ⟨h.departureAlarm_of_alarm hspeak hal abandoned he,
    (harb h).departureAlarm_of_alarm (by simpa using hspeak) (by simpa using hal) abandoned he,
    (hrep h).departureAlarm_of_alarm (by simpa using hspeak) (by simpa using hal) abandoned he,
    (harb (hrep (harb h))).departureAlarm_of_alarm (by simpa using hspeak) (by simpa using hal) abandoned he⟩

/-- The in-flight entry is taken out of the queue, and with it alarm-due if it is an ALARM. -/
theorem EventOk.clearInFlight (h : EventOk s) (hbusy : s.line.lineState = .busy) {e : TxEntry}
    (hin : s.line.inFlight = some e) (due : Bool) (hdue : due = true → s.condition.alarmDue = true ∧ e.isAlarm = false) :
    EventOk (Machine.setAlarmDue due (Machine.clearInFlight s)) := by
  have htx : s.line.txEntries = e :: s.line.waiting := by simp [LineUnit.txEntries, hin]
  obtain ⟨hlen, hr, ha⟩ := htx ▸ h.queues.tx
  obtain ⟨-, -, -, -, -, -, hown, hidle, hrec, hrest, hsil, hiso⟩ := h.attempt
  have hstate : QueuesHeld (Machine.setAlarmDue due (Machine.clearInFlight s)) := by
    refine ⟨h.queues.rxBound, ⟨?_, ?_, ?_⟩, h.queues.unstarted, h.queues.rxRest, fun hs => ?_, fun hd hs => ?_⟩
    · simpa [LineUnit.txEntries, Machine.clearInFlight] using (Nat.le_succ _).trans hlen
    · exact (List.sublist_cons_self _ _).countP_le.trans hr
    · exact (List.sublist_cons_self _ _).countP_le.trans ha
    · simpa [htx] using h.queues.txRest hs
    · obtain ⟨hd', hkind⟩ := hdue hd
      have := h.queues.alarmDue hd' hs
      rw [LineUnit.holdsAlarm, htx, List.any_cons, hkind, Bool.false_or] at this
      exact this
  exact ⟨h.config, h.mode, hstate,
    ⟨Nat.zero_le 8, nofun, by simp [Machine.setAlarmDue, Machine.clearInFlight, Config.firstWindow], rfl,
      by simp [Machine.setAlarmDue, Machine.clearInFlight],
      fun hl => by simp [Machine.setAlarmDue, Machine.clearInFlight, hbusy] at hl, hown, hidle, hrec, hrest, hsil, hiso⟩,
    h.table, h.limit, h.measure, h.share, h.valve, h.head, h.reports⟩

/-- With at most one ALARM in the queue, none waits behind one in flight (R148). -/
theorem holdsAlarm_clearInFlight (h : EventOk s) {e : TxEntry} (hin : s.line.inFlight = some e) (he : e.isAlarm = true) :
    (clearInFlight s).line.holdsAlarm = false := by
  have htx : s.line.txEntries = e :: s.line.waiting := by simp [LineUnit.txEntries, hin]
  obtain ⟨-, -, ha⟩ := htx ▸ h.queues.tx
  rw [List.countP_cons, if_pos he] at ha
  have hzero : s.line.waiting.countP TxEntry.isAlarm = 0 := by omega
  simpa [LineUnit.holdsAlarm, LineUnit.txEntries, clearInFlight, List.countP_eq_zero] using hzero

/-- The departure of the in-flight entry keeps the invariant, in every order of its parts (R44, R149, R158). -/
theorem EventOk.depart (h : EventOk s) (hbusy : s.line.lineState = .busy) (abandoned : Bool) (choice : ChoiceOrder)
    (order : OfferOrder) : EventOk (depart abandoned choice order s) := by
  unfold Machine.depart
  split
  next => exact h
  next e hin =>
    have hspeak : s.speaking = true := by
      by_contra hs
      simpa [LineUnit.txEntries, hin] using h.queues.txRest (by simpa using hs)
    cases he : e.isAlarm with
    | true =>
      have hclear := (h.clearInFlight hbusy hin false nofun).noteDeparture e
      obtain ⟨h1, h2, h3, h4⟩ := EventOk.departOrders_of_alarm
        (s := Machine.noteDeparture e (Machine.clearInFlight s)) hclear hspeak
        (holdsAlarm_clearInFlight h hin he) abandoned he
      cases choice <;> cases order
      · exact h2.arbitrate.queueReport
      · exact h4
      · exact h1.queueReport
      · exact h3
      · exact h1.queueReport
      · exact h3
    | false =>
      have hclear := (h.clearInFlight hbusy hin s.condition.alarmDue fun hd => ⟨hd, he⟩).noteDeparture e
      change EventOk (Machine.noteDeparture e (Machine.clearInFlight s)) at hclear
      have hal {u : State} (hu : EventOk u) := hu.departureAlarm_of_not_alarm abandoned he
      cases choice <;> cases order
      · exact (hal hclear.arbitrate).arbitrate.queueReport
      · exact hal hclear.arbitrate.queueReport.arbitrate
      · exact (hal hclear).queueReport
      · exact hal hclear.queueReport
      · exact (hal hclear).queueReport
      · exact hal hclear.queueReport

/-- An abandoned entry departs with TX_ABANDON latched after or before (R160). -/
theorem EventOk.abandon (h : EventOk s) (hbusy : s.line.lineState = .busy) (choice : ChoiceOrder) (order : OfferOrder) :
    EventOk (abandon choice order s) := by
  cases choice with
  | choiceFirst | offersFirst => exact h.depart hbusy true _ order
  | latchFirst => exact (h.setLatch _).depart (by simpa using hbusy) false _ order

theorem EventOk.entrySent (h : EventOk s) (choice : ChoiceOrder) (order : OfferOrder) :
    EventOk (entrySent choice order s) := by
  unfold Machine.entrySent
  split
  next hown =>
    obtain ⟨ha8, hjam, hw, hh, hdraw, hin, -, -, hrec, hrest, hsil, hiso⟩ := h.attempt
    have hnot8 : s.line.attempts ≠ 8 := fun h8 => by simpa [hown] using hjam h8
    refine (h.setLine (u := { s.line with lineState := .busy, sending := [] })
      ⟨h.queues.1, h.queues.2, h.queues.3, h.queues.4, h.queues.5, h.queues.6⟩
      ⟨ha8, fun h8 => absurd h8 hnot8, hw, hh, hdraw, fun _ => hin (.inl hown), by simp, nofun, hrec.busy,
        fun hs => ⟨rfl, (hrest hs).2⟩, hsil, hiso⟩).depart rfl false choice order
  next => exact h

theorem EventOk.jamEnd (h : EventOk s) (choice : ChoiceOrder) (order : OfferOrder) :
    EventOk (jamEnd choice order s) := by
  unfold Machine.jamEnd
  split
  next hjam =>
    dsimp only
    split
    next hfew => exact h.retry hjam hfew
    next =>
      obtain ⟨-, -, hw, hh, hdraw, hin, hown, -, hrec, hrest, hsil, hiso⟩ := h.attempt
      obtain ⟨e, he⟩ := Option.isSome_iff_exists.1 (hin (.inr hjam))
      have hquiet : s.line.sending = [] := by
        by_contra hne
        simpa [hjam] using hown.2 hne
      have hrested : EventOk (s.setLine
          { s.line with lineState := .busy, abandoned := countUp s.line.abandoned, attempts := 0 }) :=
        h.setLine ⟨h.queues.1, h.queues.2, h.queues.3, h.queues.4, h.queues.5, h.queues.6⟩
          ⟨Nat.zero_le 8, nofun, hw, hh, hdraw, fun _ => hin (.inr hjam), by simp [hquiet], nofun, hrec.busy,
            fun hs => ⟨rfl, (hrest hs).2⟩, hsil, hiso⟩
      rw [← abandon_restAttempts _ choice order (e := e) (by simpa using he)]
      exact hrested.abandon rfl choice order
  next => exact h

end Departure
end Sys2Proof.Machine
end

section
/-! The invariant at the Measurement Unit and the offer of a plant (R108, R122 to R136): what a record, the hold timers and
the inputs make of the fields and the inputs, and that they keep the clauses of `MeasureOk`. -/

namespace Sys2Proof.Machine

/-! ### One value for each input or field -/

section Maps

variable {α β : Type}

@[simp] theorem PerInput.get_set_self (p : PerInput α) (i : InputName) (a : α) : (p.set i a).get i = a := by
  cases i <;> rfl

theorem PerInput.get_set_of_ne (p : PerInput α) {i j : InputName} (a : α) (h : j ≠ i) :
    (p.set i a).get j = p.get j := by
  cases i <;> cases j <;> simp_all [PerInput.set, PerInput.get]

@[simp] theorem PerInput.set_set (p : PerInput α) (i : InputName) (a b : α) : (p.set i a).set i b = p.set i b := by
  cases i <;> rfl

@[simp] theorem PerInput.get_mapEach (f : α → β) (p : PerInput α) (i : InputName) :
    (p.mapEach f).get i = f (p.get i) := by
  cases i <;> rfl

theorem PerInput.ext_get {p q : PerInput α} (h : ∀ i, p.get i = q.get i) : p = q := by
  cases p
  cases q
  have h0 := h .in0
  have h1 := h .in1
  have h2 := h .in2
  have h3 := h .in3
  simp_all [PerInput.get]

@[simp] theorem Fields.get_set_self (fs : Fields) (n : FieldName) (f : Field) : (fs.set n f).get n = f := by
  cases n <;> rfl

theorem Fields.get_set_of_ne (fs : Fields) {n m : FieldName} (f : Field) (h : m ≠ n) :
    (fs.set n f).get m = fs.get m := by
  cases n <;> cases m <;> simp_all [Fields.set, Fields.get]

@[simp] theorem Fields.get_mapEach (f : Field → Field) (fs : Fields) (n : FieldName) :
    (fs.mapEach f).get n = f (fs.get n) := by
  cases n <;> rfl

end Maps

/-! ### Configuration in range (R171) -/

/-- A tunable of a loaded descriptor lies in its range. -/
theorem DescriptorOk.inRange {d : Descriptor} (h : DescriptorOk d) {lo v hi : Nat} (hm : (lo, v, hi) ∈ d.tunables) :
    lo ≤ v ∧ v ≤ hi := by
  obtain ⟨-, htunables, -⟩ := h
  exact htunables _ hm

theorem EventOk.descriptorOk {s : State} (h : EventOk s) (hact : s.active = true) : DescriptorOk s.config :=
  (h.config.2.2 hact).1

theorem EventOk.bandOk {s : State} (h : EventOk s) (hact : s.active = true) : BandOk s.config s.band :=
  (h.config.2.2 hact).2

/-- A role is known exactly in JOINING, RUNNING and HOLD (R170, R173). -/
theorem EventOk.active_of_isPlant {s : State} (h : EventOk s) (hp : s.isPlant = true) : s.active = true := by
  rw [← h.config.1]
  unfold State.isPlant at hp
  split at hp <;> simp_all

theorem EventOk.active_of_isTransfer {s : State} (h : EventOk s) (ht : s.isTransfer = true) : s.active = true := by
  rw [← h.config.1]
  unfold State.isTransfer at ht
  split at ht <;> simp_all

theorem isPlant_eq_not_isTransfer {s : State} (h : s.control.descriptor.isSome = true) :
    s.isPlant = !s.isTransfer := by
  obtain ⟨d, hd⟩ := Option.isSome_iff_exists.1 h
  cases hr : d.role <;> simp [State.isPlant, State.isTransfer, hd, hr]

theorem not_isPlant_of_isTransfer {s : State} (h : s.isTransfer = true) : s.isPlant = false := by
  unfold State.isTransfer at h
  unfold State.isPlant
  split at h <;> simp_all

theorem config_role_of_isTransfer {s : State} (h : s.isTransfer = true) : s.config.role = .transfer := by
  unfold State.isTransfer at h
  unfold State.config
  split at h <;> simp_all

theorem config_role_of_isPlant {s : State} (h : s.isPlant = true) : s.config.role = .plant := by
  unfold State.isPlant at h
  unfold State.config
  split at h <;> simp_all

/-! ### Fields -/

theorem FieldOk.atReset (n : FieldName) : FieldOk n .atReset := by simp [FieldOk, Field.atReset]

/-- A field's present value is at most the upper end of its fixed range (R125). -/
theorem FieldOk.present_le {n : FieldName} {f : Field} (h : FieldOk n f) {v : Nat} (hv : f.present = some v) :
    v ≤ FieldName.top n := by
  obtain ⟨-, -, htop⟩ := h
  unfold Field.present at hv
  split at hv
  · exact htop v hv
  · exact htop v hv
  · exact nomatch hv

/-- A field is present exactly while it is GOOD or HELD (R126). -/
theorem FieldOk.present_isSome {n : FieldName} {f : Field} (h : FieldOk n f) :
    f.present.isSome = decide (f.state ≠ .absent) := by
  obtain ⟨hval, -, -⟩ := h
  cases hs : f.state <;> simp_all [Field.present]

theorem MeasureOk.reading_le {s : State} (h : MeasureOk s) {n : FieldName} {v : Nat} (hv : s.reading n = some v) :
    v ≤ FieldName.top n := (h.1 n).present_le hv

/-- A reading moves a field within its range (R125, R126). -/
theorem FieldOk.judged {n : FieldName} {f : Field} (h : FieldOk n f) {r : Option Nat} (hr : ∀ v ∈ r, v ≤ FieldName.top n)
    (holdTime : Nat) : FieldOk n (judgedField holdTime f r) := by
  cases r with
  | some v => simpa [judgedField, FieldOk] using hr v rfl
  | none =>
    unfold judgedField
    obtain ⟨hval, hrun, htop⟩ := h
    cases hs : f.state with
    | good => exact ⟨by simpa [hs] using hval, rfl, htop⟩
    | held | absent => exact ⟨hval, hrun, htop⟩

theorem FieldOk.missed {n : FieldName} {f : Field} (h : FieldOk n f) (holdTime : Nat) :
    FieldOk n (missedField holdTime f) := by
  obtain ⟨hval, hrun, htop⟩ := h
  unfold missedField
  cases hs : f.state with
  | good => exact ⟨by simpa [hs] using hval, rfl, htop⟩
  | held | absent => exact ⟨hval, hrun, htop⟩

/-- The fields of a set are those of its readings, in its order. -/
theorem sampleReadings_map_fst (characters : List Byte) (k : Nat) (set : List FieldName) :
    (sampleReadings characters k set).map Prod.fst = set := by
  induction set generalizing k with
  | nil => rfl
  | cons f rest ih => simp [sampleReadings, ih]

/-- Field number j of a set has the reading at its place in the record (R181). -/
theorem sampleReadings_getElem? (characters : List Byte) (k : Nat) (set : List FieldName) (j : Nat) :
    (sampleReadings characters k set)[j]? = set[j]?.map (fun f => (f, sampleReading characters (k + j) f)) := by
  induction set generalizing k j with
  | nil => simp [sampleReadings]
  | cons f rest ih =>
    cases j with
    | zero => simp [sampleReadings]
    | succ j => simp [sampleReadings, ih, Nat.add_assoc, Nat.add_comm 1 j]

theorem sampleReading_le {characters : List Byte} {k v : Nat} {f : FieldName}
    (h : sampleReading characters k f = some v) : v ≤ FieldName.top f := by
  simp only [sampleReading] at h
  split at h
  next hgood =>
    obtain rfl := by simpa using h
    exact hgood.2
  next => exact nomatch h

theorem sampleReadings_le {characters : List Byte} {k v : Nat} {set : List FieldName} {f : FieldName}
    {r : Option Nat} (hm : (f, r) ∈ sampleReadings characters k set) (hv : r = some v) : v ≤ FieldName.top f := by
  obtain ⟨j, hj⟩ := List.mem_iff_getElem?.1 hm
  rw [sampleReadings_getElem?] at hj
  obtain ⟨g, -, hg⟩ := Option.map_eq_some_iff.1 hj
  obtain ⟨rfl, rfl⟩ := by simpa using hg
  exact sampleReading_le hv

/-- A field that a record does not hold stays (R126). -/
theorem applyReadings_get_of_not_mem {holdTime : Nat} {readings : List (FieldName × Option Nat)} {n : FieldName}
    (h : n ∉ readings.map Prod.fst) (fs : Fields) : (applyReadings holdTime readings fs).get n = fs.get n := by
  induction readings generalizing fs with
  | nil => rfl
  | cons x rest ih =>
    obtain ⟨hne, hrest⟩ : n ≠ x.1 ∧ n ∉ rest.map Prod.fst := by simpa using h
    rw [applyReadings, ih hrest, Fields.get_set_of_ne _ _ hne]

/-- A field of a record moves by its reading (R126). -/
theorem applyReadings_get_of_mem {holdTime : Nat} {readings : List (FieldName × Option Nat)} {n : FieldName}
    {r : Option Nat} (hnd : (readings.map Prod.fst).Nodup) (h : (n, r) ∈ readings) (fs : Fields) :
    (applyReadings holdTime readings fs).get n = judgedField holdTime (fs.get n) r := by
  induction readings generalizing fs with
  | nil => exact nomatch h
  | cons x rest ih =>
    obtain ⟨hout, hnd'⟩ := by simpa only [List.map_cons, List.nodup_cons] using hnd
    rcases List.mem_cons.1 h with rfl | hrest
    · rw [applyReadings, applyReadings_get_of_not_mem hout, Fields.get_set_self]
    · have hne : n ≠ x.1 := fun heq => hout (heq ▸ List.mem_map_of_mem (f := Prod.fst) hrest)
      rw [applyReadings, ih hnd' hrest, Fields.get_set_of_ne _ _ hne]

theorem fieldSet_nodup (r : Role) : (fieldSet r).Nodup := by cases r <;> decide

/-- A field of a record's set has a reading in it. -/
theorem exists_sampleReading {characters : List Byte} {k : Nat} {set : List FieldName} {n : FieldName} (h : n ∈ set) :
    ∃ r, (n, r) ∈ sampleReadings characters k set := by
  rw [← sampleReadings_map_fst characters k set] at h
  obtain ⟨⟨m, r⟩, hm, rfl⟩ := List.mem_map.1 h
  exact ⟨r, hm⟩

/-! ### The filter (R131) -/

/-- A step toward a value, by at most sixteen sixteenths of the way, ends between the two. -/
theorem tdiv_step_between {a : Nat} (ha : a ≤ 16) (p v : Int) :
    (p ≤ p + Int.tdiv ((v - p) * a) 16 ∧ p + Int.tdiv ((v - p) * a) 16 ≤ v)
      ∨ (v ≤ p + Int.tdiv ((v - p) * a) 16 ∧ p + Int.tdiv ((v - p) * a) 16 ≤ p) := by
  have hpart {x : Int} (hx : 0 ≤ x) : 0 ≤ Int.tdiv (x * a) 16 ∧ Int.tdiv (x * a) 16 ≤ x := by
    have hprod : x * a ≤ x * 16 := Int.mul_le_mul_of_nonneg_left (by omega) hx
    have h0 : 0 ≤ x * a := Int.mul_nonneg hx (by omega)
    rw [Int.tdiv_eq_ediv_of_nonneg h0]
    omega
  by_cases h : p ≤ v
  · have := hpart (x := v - p) (by omega)
    omega
  · have := hpart (x := p - v) (by omega)
    have hneg : (v - p) * (a : Int) = -((p - v) * a) := by ring
    rw [hneg, Int.neg_tdiv]
    omega

/-- The filter's step is the signed one of R131, and ends between DPf and the reading. -/
theorem filterStep_spec {a : Nat} (ha : a ≤ 16) (p v : Nat) :
    (filterStep a p v : Int) = p + Int.tdiv (((v : Int) - p) * a) 16
      ∧ (p ≤ filterStep a p v ∧ filterStep a p v ≤ v ∨ v ≤ filterStep a p v ∧ filterStep a p v ≤ p) := by
  have hbetween := tdiv_step_between ha (p : Int) (v : Int)
  simp only [filterStep, truncDiv, Nat.cast_ofNat]
  omega

/-! ### The Measurement Unit keeps its clauses -/

section Measure

variable {s : State}

/-- Outside JOINING, RUNNING and HOLD the unit rests, its inputs following their pins (R122, R133). -/
theorem EventOk.measure_of_inactive (h : EventOk s) (hs : s.active = false) :
    s.measure = .atReset (s.measure.inputs.mapEach (fun v => v.raw)) := by
  obtain ⟨-, -, -, -, -, hrest⟩ := h.measure
  exact hrest hs

/-- A debounced input stands in its place (R133). -/
theorem MeasureOk.setInput (h : MeasureOk s) (hact : s.active = true) {i : InputName} {v : Input}
    (hv : InputOk s.config i v) : MeasureOk (setInput i v s) := by
  obtain ⟨hfields, hdpf, htop, hset, hin, -⟩ := h
  refine ⟨hfields, hdpf, htop, hset, fun _ j => ⟨?_, (hin hact j).2⟩, fun hs => by simp [hact] at hs⟩
  by_cases hj : j = i
  · subst hj
    simpa [Machine.setInput] using hv
  · simpa [Machine.setInput, PerInput.get_set_of_ne _ _ hj] using (hin hact j).1

/-- The offer is at most its basis, so it lies in the range of a flow (R108). -/
theorem offerOf_le (trip : Bool) (qavail : Option Nat) (reserve : Nat) (h : ∀ q ∈ qavail, q ≤ 20000) :
    (offerOf trip qavail reserve).1 ≤ 20000 := by
  unfold offerOf
  split
  · exact Nat.zero_le _
  · split
    · exact Nat.zero_le _
    next q =>
      have hq := h q rfl
      have hmul : q * (1000 - reserve) ≤ q * 1000 := Nat.mul_le_mul_left _ (Nat.sub_le _ _)
      dsimp only
      omega

theorem EventOk.recomputeOffer (h : EventOk s) : EventOk (recomputeOffer s) := by
  unfold Machine.recomputeOffer
  split
  next hp =>
    refine h.setHead rfl ⟨fun _ => ?_, fun hn => absurd hp (by simpa using hn)⟩
    obtain ⟨hset, hcrit, hnum, hmarg, hmove, -, hcount, hmax, hjoin⟩ := h.head.1 hp
    exact ⟨hset, hcrit, hnum, hmarg, hmove,
      offerOf_le _ _ _ fun q hq => h.measure.reading_le (n := .qavail) hq, hcount, hmax, hjoin⟩
  next => exact h

/-- An input whose debounced state is its raw state and whose timer is stopped (R134). -/
theorem inputOk_recognised (d : Descriptor) (i : InputName) (v : Input) (changed : Bool) :
    InputOk d i { v with active := rawActive d i v.raw, changed := changed, debounceTimer := .stopped } := by
  simp [InputOk]

@[simp] theorem setInput_setInput (i : InputName) (v w : Input) (s : State) :
    setInput i w (setInput i v s) = setInput i w s := by
  simp [setInput, State.setMeasure]

@[simp] theorem setInput_get_self (i : InputName) (v : Input) (s : State) :
    (setInput i v s).measure.inputs.get i = v := by
  simp [setInput]

theorem setInput_self (i : InputName) (s : State) : setInput i (s.measure.inputs.get i) s = s := by
  cases i <;> rfl

/-- A change is recognised whatever the input's state was before (R134). -/
theorem EventOk.recogniseChange_setInput (h : EventOk s) (hact : s.active = true) (i : InputName) (v : Input) :
    EventOk (recogniseChange i (setInput i v s)) := by
  have hseen : EventOk (Machine.setInput i
      { v with active := rawActive s.config i v.raw, changed := true, debounceTimer := .stopped } s) :=
    h.setMeasure (h.measure.setInput hact (inputOk_recognised s.config i v true))
  unfold recogniseChange
  simp only [setInput_setInput, setInput_get_self, setInput_reads]
  split
  · exact (hseen.setLatch _).recomputeOffer
  · exact hseen.recomputeOffer

/-- A raw level that has changed is dealt with whatever the input's state was before (R133). -/
theorem EventOk.rawChanged_setInput (h : EventOk s) (hact : s.active = true) (i : InputName) (v : Input) :
    EventOk (rawChanged i (setInput i v s)) := by
  unfold rawChanged
  simp only [setInput_get_self, setInput_setInput, setInput_reads]
  split
  next hsame => exact h.setMeasure (h.measure.setInput hact (by simp [InputOk, hsame]))
  next hdiff =>
    split
    · exact h.recogniseChange_setInput hact i v
    · exact h.setMeasure (h.measure.setInput hact (by simp [InputOk, hdiff]))

theorem EventOk.debounceTimerExpiry (h : EventOk s) (i : InputName) : EventOk (debounceTimerExpiry i s) := by
  unfold Machine.debounceTimerExpiry
  split
  next hrun =>
    have hact : s.active = true := by
      by_contra hs
      rw [h.measure_of_inactive (by simpa using hs)] at hrun
      cases i <;> exact nomatch hrun
    have := h.recogniseChange_setInput hact i (s.measure.inputs.get i)
    rwa [setInput_self] at this
  next => exact h

/-- Outside JOINING, RUNNING and HOLD an input only follows its pin (R133). -/
theorem MeasureOk.setRaw_of_inactive (h : MeasureOk s) (hs : s.active = false) (i : InputName) (level : Level) :
    MeasureOk (Machine.setInput i { s.measure.inputs.get i with raw := level } s) := by
  obtain ⟨hfields, hdpf, htop, hset, -, hrest⟩ := h
  refine ⟨hfields, hdpf, htop, hset, fun hact => by simp [hs] at hact, fun _ => ?_⟩
  have hm := hrest hs
  generalize s.measure.inputs.mapEach (fun v => v.raw) = raws at hm
  cases i <;> simp [Machine.setInput, hm, MeasurementUnit.atReset, PerInput.set, PerInput.get, PerInput.mapEach, Input.atReset]

theorem EventOk.rawLevelChange (h : EventOk s) (i : InputName) (level : Level) :
    EventOk (rawLevelChange i level s) := by
  unfold Machine.rawLevelChange
  dsimp only
  split
  · exact h
  · split
    next hact => exact h.rawChanged_setInput (by simpa using hact) i _
    next hact => exact h.setMeasure (h.measure.setRaw_of_inactive (by simpa using hact) i level)

/-- The clauses on the fields hold after an exchange of the fields and of DPf that keeps them. -/
theorem MeasureOk.setFields (h : MeasureOk s) (hact : s.active = true) {fields : Fields} {dpf : Option Nat}
    {timer : Timer} (hfields : ∀ n, FieldOk n (fields.get n)) (hdpf : dpf.isSome = decide (fields.dp.state ≠ .absent))
    (htop : ∀ p ∈ dpf, p ≤ 10000) (hset : ∀ n, n ∉ fieldSet s.config.role → fields.get n = .atReset) :
    MeasureOk (s.setMeasure { s.measure with fields := fields, dpf := dpf, sampleTimer := timer }) := by
  obtain ⟨-, -, -, -, hin, -⟩ := h
  exact ⟨hfields, hdpf, htop, hset, hin, fun hs => by simp [hact] at hs⟩

theorem EventOk.sampleTimerExpiry (h : EventOk s) : EventOk (sampleTimerExpiry s) := by
  unfold Machine.sampleTimerExpiry
  split
  next hrun =>
    have hact : s.active = true := by
      by_contra hs
      rw [h.measure_of_inactive (by simpa using hs)] at hrun
      exact nomatch hrun
    obtain ⟨hfields, hdpf, htop, hset, -, -⟩ := h.measure
    have hstate (f : Field) : (missedField s.config.holdTime f).state = .absent ↔ f.state = .absent := by
      unfold missedField
      cases hf : f.state <;> simp [hf]
    refine (h.setMeasure (h.measure.setFields hact (fun n => ?_) ?_ htop fun n hn => ?_)).setLatch _
    · simpa using (hfields n).missed _
    · simpa [Fields.mapEach, hstate] using hdpf
    · simp [hset n hn, missedField, Field.atReset]
  next => exact h

theorem EventOk.fieldHoldTimerExpiry (h : EventOk s) (n : FieldName) : EventOk (fieldHoldTimerExpiry n s) := by
  unfold Machine.fieldHoldTimerExpiry
  split
  next hrun =>
    have hact : s.active = true := by
      by_contra hs
      rw [h.measure_of_inactive (by simpa using hs)] at hrun
      cases n <;> exact nomatch hrun
    obtain ⟨hfields, hdpf, htop, hset, -, -⟩ := h.measure
    have hgone : EventOk (s.setMeasure { s.measure with
        fields := s.measure.fields.set n .atReset
        dpf := if n = .dp then none else s.measure.dpf }) := by
      refine h.setMeasure (h.measure.setFields hact (fun m => ?_) ?_ ?_ fun m hm => ?_)
      · by_cases hm : m = n
        · subst hm
          simpa using FieldOk.atReset m
        · simpa [Fields.get_set_of_ne _ _ hm] using hfields m
      · cases n with
        | dp => rfl
        | _ => exact hdpf
      · split
        · simp
        · exact htop
      · by_cases hm' : m = n
        · subst hm'
          simp
        · rw [Fields.get_set_of_ne _ _ hm', hset m hm]
    dsimp only
    split
    · exact hgone.recomputeOffer.setLatch _
    · exact hgone.setLatch _
  next => exact h

/-- DPf after a record is present with the DP field and in its range (R131, R132). -/
theorem filteredPressure_ok {a : Nat} (ha : a ≤ 16) {dpf : Option Nat} {before after : Field} {r : Option Nat}
    {holdTime : Nat} (hafter : after = judgedField holdTime before r) (hok : FieldOk .dp after)
    (hdpf : dpf.isSome = decide (before.state ≠ .absent)) (htop : ∀ p ∈ dpf, p ≤ 10000) :
    (filteredPressure a dpf after).isSome = decide (after.state ≠ .absent)
      ∧ ∀ p ∈ filteredPressure a dpf after, p ≤ 10000 := by
  obtain ⟨hval, -, hv⟩ := hok
  unfold filteredPressure
  cases hs : after.state with
  | absent => simp
  | held =>
    have hwas : before.state ≠ .absent := by
      rintro hb
      cases r <;> simp [judgedField, hb] at hafter <;> simp [hafter, hb] at hs
    exact ⟨by simpa [hwas] using hdpf, htop⟩
  | good =>
    obtain ⟨v, hvalue⟩ := Option.isSome_iff_exists.1 (hval.trans (by simp [hs]))
    have hle : v ≤ 10000 := hv v hvalue
    cases dpf with
    | none => simpa [hvalue] using hle
    | some p =>
      have hp := htop p rfl
      have := (filterStep_spec ha p v).2
      simp only [hvalue, Option.isSome_some, Option.mem_some_iff]
      exact ⟨by simp, by omega⟩

theorem dp_mem_fieldSet (r : Role) : FieldName.dp ∈ fieldSet r := by cases r <;> decide

theorem EventOk.sampleRecord (h : EventOk s) (characters : List Byte) : EventOk (sampleRecord characters s) := by
  unfold Machine.sampleRecord
  split
  next hrec =>
    have hact : s.active = true := by
      simp only [Bool.and_eq_true] at hrec
      exact hrec.1.1
    obtain ⟨hfields, hdpf, htop, hset, -, -⟩ := h.measure
    have hnames := sampleReadings_map_fst characters 0 (fieldSet s.config.role)
    have hnd : ((sampleReadings characters 0 (fieldSet s.config.role)).map Prod.fst).Nodup :=
      hnames.symm ▸ fieldSet_nodup s.config.role
    have hout {n : FieldName} (hn : n ∉ fieldSet s.config.role) :
        n ∉ (sampleReadings characters 0 (fieldSet s.config.role)).map Prod.fst := hnames.symm ▸ hn
    have hall (n : FieldName) : FieldOk n ((applyReadings s.config.holdTime
        (sampleReadings characters 0 (fieldSet s.config.role)) s.measure.fields).get n) := by
      by_cases hn : n ∈ fieldSet s.config.role
      · obtain ⟨r, hr⟩ := exists_sampleReading (characters := characters) (k := 0) hn
        rw [applyReadings_get_of_mem hnd hr]
        exact (hfields n).judged (fun v hv => sampleReadings_le hr hv) _
      · rw [applyReadings_get_of_not_mem (hout hn)]
        exact hfields n
    obtain ⟨r, hr⟩ := exists_sampleReading (characters := characters) (k := 0) (dp_mem_fieldSet s.config.role)
    have ha : s.config.filterA ≤ 16 :=
      ((h.descriptorOk hact).inRange (lo := 1) (hi := 16) (by simp [Descriptor.tunables])).2
    have hfilter := filteredPressure_ok ha (applyReadings_get_of_mem hnd hr s.measure.fields) (hall .dp) hdpf htop
    exact (h.setMeasure (h.measure.setFields hact hall hfilter.1 hfilter.2 fun n hn => by
      rw [applyReadings_get_of_not_mem (hout hn), hset n hn])).recomputeOffer
  next => exact h

end Measure
end Sys2Proof.Machine
end

section
/-! The invariant at the Limit Unit, the Report Scheduler, the Share Engine, the Valve Loop and the Head Reset Unit (spec/02
to spec/06). -/

namespace Sys2Proof.Machine

section Units

variable {s : State}

theorem speaking_active (h : s.speaking = true) : s.active = true := by
  unfold State.speaking at h
  unfold State.active
  cases hm : s.control.mode <;> simp_all [Mode.speaking, Mode.active]

/-! ### The Limit Unit -/

/-- A block or a shed stands only in RUNNING and HOLD of a transfer station (R69). -/
theorem EventOk.limit_acts (h : EventOk s) (hne : s.limit ≠ .atReset) : s.speaking = true ∧ s.isPlant = false := by
  obtain ⟨-, -, -, -, -, hrest⟩ := h.limit
  by_contra hcon
  refine hne (hrest ?_)
  simp only [not_and, Bool.not_eq_false] at hcon
  cases hs : s.speaking with
  | false => exact .inl rfl
  | true => exact .inr (hcon hs)

/-- An update of the Limit Unit where it acts. -/
theorem EventOk.updateLimit (h : EventOk s) (hs : s.speaking = true) (hp : s.isPlant = false) {u : LimitUnit}
    (hactive : ActiveOk u.active) (hpend : ∀ b ∈ u.pendingBlock, BlockOk b ∧ u.active.isRunning = true)
    (hbt : u.blockTimer.isRunning = u.active.isRunning) (hst : u.shedTimer.isRunning = u.shedInForce)
    (hshed : ShedOk s.config.ownClass u.shed) : EventOk (s.setLimit u) :=
  h.setLimit ⟨hactive, hpend, hbt, hst, hshed, fun hrest => by simp [hs, hp] at hrest⟩

/-- A block that becomes the active one runs with its full duration (R72). -/
theorem EventOk.activate (h : EventOk s) (hs : s.speaking = true) (hp : s.isPlant = false) {b : Block}
    (hb : BlockOk b) {pending : Option Block} (hpend : ∀ p ∈ pending, BlockOk p) :
    EventOk (s.setLimit { s.limit.activate b with pendingBlock := pending }) := by
  obtain ⟨-, -, -, hst, hshed, -⟩ := h.limit
  exact h.updateLimit hs hp ⟨hb, hb.2.1, le_rfl⟩ (fun p hp' => ⟨hpend p hp', rfl⟩) rfl hst hshed

theorem EventOk.blockTimerExpiry (h : EventOk s) : EventOk (blockTimerExpiry s) := by
  unfold Machine.blockTimerExpiry
  split
  next hrun =>
    have hne : s.limit ≠ .atReset := fun heq => by simp [heq, LimitUnit.atReset] at hrun
    obtain ⟨hs, hp⟩ := h.limit_acts hne
    obtain ⟨hactive, hpend, hbt, hst, hshed, -⟩ := h.limit
    split
    next b remaining hact =>
      rw [hact] at hactive hpend
      obtain ⟨hb, hrem, hdur⟩ := hactive
      split
      next hmore =>
        exact h.updateLimit hs hp ⟨hb, by omega, by omega⟩ (fun p hp' => ⟨(hpend p hp').1, rfl⟩) hrun hst hshed
      next =>
        have hexp : EventOk (s.setLimit (s.limit.activeExpiry b)) := by
          unfold LimitUnit.activeExpiry
          split
          next next hnext =>
            exact h.activate hs hp (hpend next hnext).1 (pending := none) nofun
          next hnone =>
            have hno : ∀ p ∈ s.limit.pendingBlock, BlockOk p ∧ False := fun p hp' => by simp [hnone] at hp'
            split
            next => exact h.activate hs hp hb fun p hp' => (hno p hp').1
            next => exact h.updateLimit hs hp trivial (fun p hp' => (hno p hp').2.elim) rfl hst hshed
            next hmode => exact h.updateLimit hs hp ⟨hb, hmode⟩ (fun p hp' => (hno p hp').2.elim) rfl hst hshed
        dsimp only
        split
        · exact hexp.setLatch _
        · exact hexp
    next => exact h
    next => exact h
  next => exact h

theorem EventOk.endShed (h : EventOk s) : EventOk (s.setLimit s.limit.endShed) := by
  obtain ⟨hactive, hpend, hbt, -, -, hrest⟩ := h.limit
  refine h.setLimit ⟨hactive, hpend, hbt, rfl, trivial, fun hr => ?_⟩
  have := hrest hr
  simp [this, LimitUnit.endShed, LimitUnit.atReset]

theorem EventOk.shedTimerExpiry (h : EventOk s) : EventOk (shedTimerExpiry s) := by
  unfold Machine.shedTimerExpiry
  split
  next hrun =>
    have hne : s.limit ≠ .atReset := fun heq => by simp [heq, LimitUnit.atReset] at hrun
    obtain ⟨hs, hp⟩ := h.limit_acts hne
    obtain ⟨hactive, hpend, hbt, -, hshed, -⟩ := h.limit
    split
    next threshold remaining hforce =>
      split
      next hmore =>
        rw [hforce] at hshed
        obtain ⟨hown, hthree, hrem, hmax⟩ := hshed
        exact h.updateLimit hs hp hactive hpend hbt hrun ⟨hown, hthree, by omega, by omega⟩
      next => exact h.endShed
    next => exact h
  next => exact h

/-- An admitted SHED with a clamped threshold and duration (R79). -/
theorem EventOk.takeShed (h : EventOk s) (hs : s.speaking = true) (hp : s.isPlant = false) {threshold duration : Nat}
    (hthree : threshold ≤ 3) (hmax : duration ≤ 3600) : EventOk (takeShed threshold duration s) := by
  obtain ⟨hactive, hpend, hbt, -, -, -⟩ := h.limit
  unfold Machine.takeShed
  split
  next => exact h.endShed
  next hne =>
    split
    next hown =>
      exact (h.updateLimit hs hp (u := s.limit.startShed threshold duration) hactive hpend hbt rfl
        ⟨hown, hthree, by omega, hmax⟩).setLatch _
    next => exact h.endShed

theorem EventOk.arriveBlock (h : EventOk s) (hs : s.speaking = true) (hp : s.isPlant = false) {b : Block}
    (hb : BlockOk b) : EventOk (s.setLimit (s.limit.arrive b)) := by
  obtain ⟨hactive, hpend, hbt, hst, hshed, -⟩ := h.limit
  unfold LimitUnit.arrive
  split
  next => exact h.activate hs hp hb fun p hp' => (hpend p hp').1
  next => exact h.activate hs hp hb fun p hp' => (hpend p hp').1
  next hact =>
    refine h.updateLimit hs hp hactive (fun p hp' => ?_) hbt hst hshed
    obtain rfl : b = p := by simpa using hp'
    exact ⟨hb, by simp [hact, ActiveBlock.isRunning]⟩

theorem EventOk.cancelBlocks (h : EventOk s) : EventOk (s.setLimit s.limit.cancel) := by
  obtain ⟨-, -, -, hst, hshed, hrest⟩ := h.limit
  refine h.setLimit ⟨trivial, nofun, rfl, hst, hshed, fun hr => ?_⟩
  have := hrest hr
  simp [this, LimitUnit.cancel, LimitUnit.atReset]

/-! ### The Report Scheduler -/

/-- The timers of the Report Scheduler run in RUNNING and HOLD only (R31). -/
theorem EventOk.speaking_of_reports (h : EventOk s) (hne : s.reports ≠ .atReset) : s.speaking = true := by
  by_contra hs
  exact hne (h.reports.2 (by simpa using hs))

theorem EventOk.setIntervalTimer (h : EventOk s) (hs : s.speaking = true) (t : Timer) :
    EventOk (setIntervalTimer t s) :=
  h.setReports ⟨h.reports.1, fun hs' => by simp [hs] at hs'⟩

theorem EventOk.reportIntervalExpiry (h : EventOk s) : EventOk (reportIntervalExpiry s) := by
  unfold Machine.reportIntervalExpiry
  split
  next hrun =>
    have hs : s.speaking = true :=
      h.speaking_of_reports fun heq => by simp [heq, ReportScheduler.atReset] at hrun
    split
    · exact h.setIntervalTimer hs _
    · exact ((h.setIntervalTimer hs .stopped).setReportDue hs true).queueReport
  next => exact h

theorem EventOk.spacingTimerExpiry (h : EventOk s) : EventOk (spacingTimerExpiry s) := by
  unfold Machine.spacingTimerExpiry
  split
  next hrun =>
    have hs : s.speaking = true :=
      h.speaking_of_reports fun heq => by simp [heq, ReportScheduler.atReset] at hrun
    exact (h.setReports (b := { s.reports with spacingTimer := .stopped })
      ⟨h.reports.1, fun hs' => by simp [hs] at hs'⟩).queueReport
  next => exact h

theorem EventOk.changeTrigger (h : EventOk s) : EventOk (changeTrigger s) := by
  unfold Machine.changeTrigger
  split
  next hcond =>
    have hs : s.speaking = true := by
      simp only [Bool.and_eq_true] at hcond
      exact hcond.1.1
    exact (h.setReportDue hs true).queueReport
  next => exact h

/-! ### The Share Engine -/

/-- The grant is at most the request used, with or without the stages (R61). -/
theorem computeShare_grant_le (i : ShareInputs) : (computeShare i).grant ≤ i.qr := by
  have hshare (r sum : Nat) : ownShareOf i.qr r sum ≤ i.qr := by
    unfold ownShareOf memberShare
    split
    · exact Nat.zero_le _
    · split
      · exact le_rfl
      next hlt => exact Nat.div_le_of_le_mul (by rw [Nat.mul_comm]; exact Nat.mul_le_mul_right _ (by omega))
  unfold computeShare
  split
  · exact Nat.min_le_left _ _
  · split
    · exact Nat.min_le_left _ _
    · exact Nat.max_le.2 ⟨hshare _ _, Nat.min_le_left _ _⟩

@[simp] theorem computeShare_requestUsed (i : ShareInputs) : (computeShare i).requestUsed = i.qr := by
  unfold computeShare
  split
  · rfl
  · split <;> rfl

/-- A change of the Share Engine in RUNNING and HOLD of a transfer station. -/
theorem EventOk.updateShare (h : EventOk s) (hs : s.speaking = true) (ht : s.isTransfer = true) {b : ShareEngine}
    (hgrant : b.record.grant ≤ b.record.requestUsed) (hreq : b.record.requestUsed ≤ 20000) : EventOk (s.setShare b) :=
  h.setShare ⟨hgrant, hreq, fun hr => by simp [hs, not_isPlant_of_isTransfer ht] at hr⟩

theorem EventOk.shareTrigger (h : EventOk s) : EventOk (shareTrigger s) := by
  unfold Machine.shareTrigger
  split
  next hcond =>
    obtain ⟨hs, ht⟩ := Bool.and_eq_true_iff.1 hcond
    exact h.updateShare hs ht h.share.1 h.share.2.1
  next => exact h

theorem EventOk.noticeIf (h : EventOk s) (b : Bool) : EventOk (noticeIf b s) := by
  cases b
  · exact h
  · exact h.shareTrigger

/-- The reported request of a transfer station is a flow (R92). -/
theorem EventOk.qr_le (h : EventOk s) (ht : s.isTransfer = true) : s.valve.qr ≤ 20000 := by
  obtain ⟨-, ⟨-, hqr, hqreq⟩, -⟩ := h.valve.1 ht
  omega

theorem EventOk.shareComputation (h : EventOk s) : EventOk (shareComputation s) := by
  unfold Machine.shareComputation
  split
  next hcond =>
    obtain ⟨⟨hs, ht⟩, -⟩ : (s.speaking = true ∧ s.isTransfer = true) ∧ 0 < s.share.triggers := by simpa using hcond
    exact h.updateShare (b := ⟨computeShare s.shareInputs, s.share.triggers - 1⟩) hs ht
      (by simpa using computeShare_grant_le s.shareInputs) ((computeShare_requestUsed _).trans_le (h.qr_le ht))
  next => exact h

/-! ### The Valve Loop -/

theorem leastPresent_cons (n : Nat) (o : Option Nat) (others : List (Option Nat)) :
    leastPresent n (o :: others) = leastPresent (min n (o.getD n)) others := by
  cases o <;> simp [leastPresent]

/-- The reported request is the least of the building request and the caps that are present (R82). -/
theorem leastPresent_pair (n : Nat) (a b : Option Nat) :
    leastPresent n [a, b] = min (min n (a.getD n)) (b.getD (min n (a.getD n))) := by
  rw [leastPresent_cons, leastPresent_cons]
  rfl

theorem leastPresent_pair_le (n : Nat) (a b : Option Nat) : leastPresent n [a, b] ≤ n := by
  rw [leastPresent_pair]
  cases a <;> cases b <;> simp

theorem clampNat_mem {lo hi : Nat} (h : lo ≤ hi) (n : Nat) : lo ≤ clampNat lo hi n ∧ clampNat lo hi n ≤ hi := by
  simp only [clampNat]
  omega

theorem clampNat_of_mem {lo hi n : Nat} (hlo : lo ≤ n) (hhi : n ≤ hi) : clampNat lo hi n = n := by
  simp only [clampNat]
  omega

theorem clampInt_mem {lo hi : Int} (h : lo ≤ hi) (n : Int) : lo ≤ clampInt lo hi n ∧ clampInt lo hi n ≤ hi := by
  simp only [clampInt]
  omega

/-- A position moved within a range, as a signed quantity (R96, R118). -/
theorem moveWithin_cast {lo hi : Nat} (n : Nat) (d : Int) :
    (moveWithin lo hi n d : Int) = max (lo : Int) (min (hi : Int) ((n : Int) + d)) := by
  simp only [moveWithin, clampInt]
  omega

theorem moveWithin_mem {lo hi : Nat} (h : lo ≤ hi) (n : Nat) (d : Int) :
    lo ≤ moveWithin lo hi n d ∧ moveWithin lo hi n d ≤ hi := by
  have := moveWithin_cast (lo := lo) (hi := hi) n d
  omega

/-- The limiter factor stays in its range (R88, R89). -/
theorem limiterAfter_mem {d : Descriptor} (hd : DescriptorOk d) {l : Nat} (hlo : d.lFloor ≤ l) (hhi : l ≤ 1000)
    (dt : Option Int) : d.lFloor ≤ limiterAfter d l dt ∧ limiterAfter d l dt ≤ 1000 := by
  have hfloor := hd.inRange (lo := 100) (v := d.lFloor) (hi := 1000) (by simp [Descriptor.tunables])
  unfold limiterAfter
  split
  · exact ⟨hlo, hhi⟩
  · split
    · omega
    · split <;> omega

/-- The building request is at most the demand that it limits (R90). -/
theorem buildingRequest_le (closed : Bool) {qb : Option Nat} {qDef l : Nat} (hl : l ≤ 1000) (hqb : ∀ q ∈ qb, q ≤ 20000)
    (hdef : qDef ≤ 20000) : buildingRequest closed qb qDef l ≤ 20000 := by
  have hpart {q : Nat} (hq : q ≤ 20000) : q * l / 1000 ≤ 20000 := by
    have : q * l ≤ q * 1000 := Nat.mul_le_mul_left _ hl
    omega
  unfold buildingRequest
  split
  · exact Nat.zero_le _
  · split
    next q => exact hpart (hqb q rfl)
    next => exact hpart hdef

/-- V stays in the band in every case of Stage 5 (R93 to R97). -/
theorem valveCommand_mem {d : Descriptor} {b : DriveBand} (hb : BandOk d b) (hr : d.role = .transfer) {v : Nat}
    (hv : b.lo ≤ v ∧ v ≤ b.hi) (mode : Mode) (q vf : Option Nat) (inHand closed : Bool) (qt : Nat) :
    b.lo ≤ valveCommand d b mode q vf inHand closed v qt ∧ valveCommand d b mode q vf inHand closed v qt ≤ b.hi := by
  obtain ⟨hle, -, hfail, -⟩ := hb
  unfold valveCommand
  split
  · exact hfail hr
  · split
    · exact hfail hr
    · split
      · exact hv
      · split
        · split
          · exact clampNat_mem hle _
          · exact hv
        · unfold normalCommand
          split
          · exact ⟨le_rfl, hle⟩
          · exact moveWithin_mem hle _ _

theorem starveAfter_le {d : Descriptor} {wide : Bool} {q : Option Nat} {qt count : Nat} (h : count ≤ d.starveCount) :
    starveAfter d wide q qt count ≤ d.starveCount := by
  unfold starveAfter
  split
  · split
    · split <;> omega
    · exact Nat.zero_le _
  · exact Nat.zero_le _

theorem marginOf_mem {d : Descriptor} {dp dpf : Option Nat} {m : Int} (h : marginOf d dp dpf = some m) :
    -3000 ≤ m ∧ m ≤ 3000 := by
  unfold marginOf at h
  split at h
  · obtain ⟨v, -, rfl⟩ := Option.map_eq_some_iff.1 h
    exact clampInt_mem (by omega) _
  · exact nomatch h

theorem deltaT_mem {ts tr : Option Nat} (hts : ∀ v ∈ ts, v ≤ 3000) (htr : ∀ v ∈ tr, v ≤ 3000) {dt : Int}
    (h : deltaT ts tr = some dt) : -3000 ≤ dt ∧ dt ≤ 3000 := by
  unfold deltaT at h
  split at h
  next a b =>
    have := hts a rfl
    have := htr b rfl
    obtain rfl := by simpa using h
    omega
  next => exact nomatch h

/-- The publication and its computation change the Share Engine only (R49, R53). -/
theorem publish_eq_setShare (order : GrantOrder) (s : State) : publish order s = s.setShare (publish order s).share := by
  have hanswer : answerPublication s = s.setShare (answerPublication s).share := by
    unfold answerPublication
    split <;> rfl
  cases order with
  | computationFirst => exact hanswer
  | readThenComputation => rfl
  | readFirst =>
    change Machine.shareTrigger s = s.setShare (Machine.shareTrigger s).share
    unfold Machine.shareTrigger
    split <;> rfl

theorem ShareOk.answerPublication (h : ShareOk s) (hqr : s.isTransfer = true → s.valve.qr ≤ 20000) :
    ShareOk (answerPublication s) := by
  unfold Machine.answerPublication
  split
  next hcond =>
    obtain ⟨hs, ht⟩ := Bool.and_eq_true_iff.1 hcond
    refine ⟨?_, ?_, fun hr => ?_⟩
    · simpa [takeComputation] using computeShare_grant_le s.shareInputs
    · simpa [takeComputation, State.shareInputs] using hqr ht
    · simp [takeComputation, hs, not_isPlant_of_isTransfer ht] at hr
  next => exact h

/-- The grant that the Valve Loop reads, and the computation, keep the clauses of the Share Engine (R53). -/
theorem ShareOk.publish (h : ShareOk s) (hqr : s.isTransfer = true → s.valve.qr ≤ 20000) (order : GrantOrder) :
    ShareOk (publish order s) := by
  cases order with
  | computationFirst => exact h.answerPublication hqr
  | readThenComputation => exact h
  | readFirst =>
    change ShareOk (Machine.shareTrigger s)
    unfold Machine.shareTrigger
    split
    next hcond =>
      obtain ⟨hs, ht⟩ := Bool.and_eq_true_iff.1 hcond
      exact ⟨h.1, h.2.1, fun hr => by simp [hs, not_isPlant_of_isTransfer ht] at hr⟩
    next => exact h

/-- The Valve Loop after Stages 1 to 6, with the Share Engine after the publication. -/
theorem stagesFourToSix_publish (order : GrantOrder) (s : State) :
    stagesFourToSix (publish order (stagesOneToThree s))
      = (s.setShare (publish order (stagesOneToThree s)).share).setValve
        (stagesFourToSix (publish order (stagesOneToThree s))).valve := by
  rw [publish_eq_setShare]
  rfl

/-- Stages 1 to 6 keep the ranges of the Valve Loop, whatever the Share Engine grants (R89, R92, R97, R100, R101). -/
theorem ValveActive.stages (hv : ValveActive s) (hm : MeasureOk s) (hd : DescriptorOk s.config)
    (hb : BandOk s.config s.band) (hr : s.config.role = .transfer) (b : ShareEngine) :
    ValveActive (stagesFourToSix ((stagesOneToThree s).setShare b)) := by
  obtain ⟨⟨hlo, hhi⟩, -, hcommand, hstarve, -, -, -⟩ := hv
  have hl := limiterAfter_mem hd hlo hhi (deltaT (s.reading .ts) (s.reading .tr))
  have hdef := hd.inRange (lo := 0) (v := s.config.qDef) (hi := 20000) (by simp [Descriptor.tunables])
  refine ⟨hl, ⟨Nat.min_le_left _ _, ?_, ?_⟩, valveCommand_mem hb hr hcommand _ _ _ _ _ _, starveAfter_le hstarve, rfl,
    fun m hm' => marginOf_mem hm', fun dt hdt => deltaT_mem (fun v hv' => hm.reading_le (n := .ts) hv')
      (fun v hv' => hm.reading_le (n := .tr) hv') hdt⟩
  · exact leastPresent_pair_le _ _ _
  · exact buildingRequest_le _ hl.2 (fun q hq => hm.reading_le (n := .qb) hq) hdef.2

theorem ValveActive.qr_le (hv : ValveActive s) : s.valve.qr ≤ 20000 := by
  obtain ⟨-, ⟨-, hqr, hqreq⟩, -⟩ := hv
  omega

theorem EventOk.computeBeforeEnd (h : EventOk s) (order : GrantOrder) : EventOk (computeBeforeEnd order s) := by
  have hanswer : EventOk (answerPublication s) := by
    have hshare := h.share.answerPublication fun ht => h.qr_le ht
    unfold Machine.answerPublication at hshare ⊢
    split at hshare
    next hcond =>
      rw [if_pos hcond]
      exact h.setShare hshare
    next hcond => rwa [if_neg hcond]
  cases order with
  | computationFirst | readFirst => exact h
  | readThenComputation => exact hanswer

/-- A control period of the Valve Loop keeps the invariant (R86). -/
theorem EventOk.valvePeriodExpiry (h : EventOk s) (order : GrantOrder) : EventOk (valvePeriodExpiry order s) := by
  unfold Machine.valvePeriodExpiry
  split
  next hrun =>
    obtain ⟨-, -, -, -, -, -, -, htimer, -⟩ := h.mode
    have ht : s.isTransfer = true := htimer.symm.trans hrun
    have hact := h.active_of_isTransfer ht
    have hstages (b : ShareEngine) := ValveActive.stages (h.valve.1 ht) h.measure (h.descriptorOk hact) (h.bandOk hact)
      (config_role_of_isTransfer ht) b
    have hqr : (stagesOneToThree s).valve.qr ≤ 20000 := (hstages s.share).qr_le
    have hshare := ShareOk.publish (s := stagesOneToThree s) h.share (fun _ => hqr) order
    rw [stagesFourToSix_publish]
    have hvalve : ValveOk ((s.setShare (publish order (stagesOneToThree s)).share).setValve
        (stagesFourToSix (publish order (stagesOneToThree s))).valve) := by
      rw [← stagesFourToSix_publish, publish_eq_setShare]
      exact ⟨fun _ => hstages _, fun hn => nomatch (ht.symm.trans hn : true = false)⟩
    rw [publish_eq_setShare] at hshare
    have htimer' : (stagesFourToSix (publish order (stagesOneToThree s))).valve.periodTimer
        = s.valve.periodTimer := by
      rw [publish_eq_setShare]
      rfl
    have hall := (h.setShare hshare).setValve htimer' hvalve
    exact ((hall.sendDrive _).computeBeforeEnd order).changeTrigger
  next => exact h

/-! ### The Head Reset Unit -/

/-- The critical station is an entry of the table (R112). -/
theorem mem_of_leastMargin {entries : List PeerEntry} {n : Nat} {m : Int} (h : leastMargin entries = some (n, m)) :
    ∃ e ∈ entries, e.number = n ∧ Eligible e m := by
  induction entries generalizing n m with
  | nil => exact nomatch h
  | cons e rest ih =>
    have hrest (h' : leastMargin rest = some (n, m)) : ∃ x ∈ e :: rest, x.number = n ∧ Eligible x m := by
      obtain ⟨x, hx, hnum, hm⟩ := ih h'
      exact ⟨x, List.mem_cons_of_mem _ hx, hnum, hm⟩
    have hself {k : Int} (he : e.eligibleMargin = some k) (hk : (e.number, k) = (n, m)) :
        ∃ x ∈ e :: rest, x.number = n ∧ Eligible x m := by
      obtain ⟨rfl, rfl⟩ := by simpa using hk
      exact ⟨e, List.mem_cons_self, rfl, PeerEntry.eligibleMargin_eq_some_iff.1 he⟩
    unfold leastMargin at h
    split at h
    next => exact hrest h
    next he _ => exact hself he (Option.some.inj h)
    next he hlater =>
      split at h
      · exact hself he (Option.some.inj h)
      · exact hrest (hlater.trans h)

theorem starvedCount_le (entries : List PeerEntry) : starvedCount entries ≤ eligibleCount entries :=
  List.countP_mono_left fun _ _ he => (Bool.and_eq_true_iff.1 he).1

/-- What the choice leaves meets the clauses on the critical station (R106, R112). -/
theorem HeadActive.chooseCritical (h : HeadActive s) (ht : TableOk s) : HeadActive (chooseCritical s) := by
  obtain ⟨hset, -, -, -, hmove, hoffer, -, -, hjoin⟩ := h
  by_cases hm : s.control.mode = .joining
  · rw [chooseCritical_of_joining hm]
    exact ⟨hset, rfl, nofun, nofun, hmove, hoffer, le_rfl, Nat.zero_le _, hjoin⟩
  · obtain ⟨hlen, -, hentries, -⟩ := ht
    rw [chooseCritical_of_not_joining hm]
    refine ⟨hset, by simp, fun n hn => ?_, fun m hm' => ?_, hmove, hoffer, starvedCount_le _,
      List.countP_le_length.trans hlen, hjoin⟩
    · obtain ⟨⟨n', m⟩, hleast, rfl⟩ := Option.map_eq_some_iff.1 hn
      obtain ⟨e, he, rfl, -⟩ := mem_of_leastMargin hleast
      exact (hentries e he).1
    · obtain ⟨⟨n', m'⟩, hleast, rfl⟩ := Option.map_eq_some_iff.1 hm'
      obtain ⟨e, he, -, p, hp, -, -, hmarg⟩ := mem_of_leastMargin hleast
      obtain ⟨-, -, -, -, -, -, -, hpart⟩ := hentries e he
      rw [hp] at hpart
      exact hpart.2.2.2.2 m' hmarg

/-- H moves within the band by at most Hstep, and not at all in JOINING, where it stands at H_start (R113 to R118). -/
theorem headAfter_mem {d : Descriptor} {b : DriveBand} (hb : BandOk d b) (hr : d.role = .plant) {h : Nat}
    (hlo : b.lo ≤ h) (hhi : h ≤ b.hi) {case : HeadCase} (hj : case = .joining → h = d.hStart) (mc : Option Int) :
    (b.lo ≤ headAfter d b case mc h ∧ headAfter d b case mc h ≤ b.hi)
      ∧ (headAfter d b case mc h ≤ h + d.hStep ∧ h ≤ headAfter d b case mc h + d.hStep) := by
  obtain ⟨hle, -, -, hplant⟩ := hb
  obtain ⟨-, -, hstart, hiso⟩ := hplant hr
  have hstay : clampNat b.lo b.hi h = h := clampNat_of_mem hlo hhi
  cases case with
  | none | hold | noPeers => simp [headAfter, hstay, hlo, hhi]
  | joining =>
    obtain rfl := hj rfl
    simp [headAfter, hstay, hlo, hhi]
  | isolated =>
    simp only [headAfter]
    refine ⟨clampNat_mem hle _, ?_⟩
    simp only [clampNat]
    split
    · omega
    · split <;> omega
  | starved =>
    simp only [headAfter]
    refine ⟨clampNat_mem hle _, ?_⟩
    simp only [clampNat]
    omega
  | proportional =>
    cases mc with
    | none => simp [headAfter, hstay, hlo, hhi]
    | some m =>
      simp only [headAfter]
      have hcast := moveWithin_cast (lo := b.lo) (hi := b.hi) h (proportionalMove d m)
      have hlim := clampInt_mem (lo := -(d.hStep : Int)) (hi := d.hStep) (by omega)
        (-(truncDiv ((d.kh : Int) * m) 64))
      change _ ≤ proportionalMove d m ∧ proportionalMove d m ≤ _ at hlim
      exact ⟨moveWithin_mem hle _ _, by omega⟩

theorem headCaseOf_eq_joining {mode : Mode} {isolated : Bool} {eligible starved : Nat}
    (h : headCaseOf mode isolated eligible starved = .joining) : mode = .joining := by
  unfold headCaseOf at h
  split at h
  next hm => exact hm
  next => (repeat' split at h) <;> exact nomatch h

/-- The movement keeps the clauses of the Head Reset Unit (R113 to R118). -/
theorem HeadActive.moveHead (h : HeadActive s) (hd : DescriptorOk s.config) (hb : BandOk s.config s.band)
    (hr : s.config.role = .plant) : HeadActive (moveHead s) := by
  obtain ⟨⟨hlo, hhi⟩, hcrit, hnum, hmarg, -, hoffer, hcount, hmax, hjoin⟩ := h
  obtain ⟨hmem, hup, hdown⟩ := headAfter_mem hb hr hlo hhi (fun hc => hjoin (headCaseOf_eq_joining hc))
    (case := headCaseOf s.control.mode s.line.isolated s.head.eligible s.head.starvedEligible) s.head.criticalMargin
  have hstep := hd.inRange (lo := 1) (v := s.config.hStep) (hi := 500) (by simp [Descriptor.tunables])
  refine ⟨hmem, hcrit, hnum, hmarg, ?_, hoffer, hcount, hmax, fun hm => ?_⟩
  · change -500 ≤ (headAfter _ _ _ _ _ : Int) - (s.head.setpoint : Int) ∧ _ - (s.head.setpoint : Int) ≤ 500
    omega
  · have hcase : headCaseOf s.control.mode s.line.isolated s.head.eligible s.head.starvedEligible = .joining :=
      if_pos hm
    change headAfter _ _ _ _ _ = s.config.hStart
    rw [hcase, ← hjoin hm]
    simp only [headAfter, ← hjoin hm]
    exact clampNat_of_mem hlo hhi

/-- A head control period keeps the invariant (R110). -/
theorem EventOk.headPeriodExpiry (h : EventOk s) : EventOk (headPeriodExpiry s) := by
  unfold Machine.headPeriodExpiry
  split
  next hrun =>
    obtain ⟨-, -, -, -, -, -, -, -, htimer⟩ := h.mode
    have hp : s.isPlant = true := htimer.symm.trans hrun
    have hact := h.active_of_isPlant hp
    have hchoice : chooseCritical s = s.setHead (chooseCritical s).head := by
      unfold chooseCritical
      split <;> rfl
    have hchosen : EventOk (chooseCritical s) := by
      have hhead := HeadActive.chooseCritical (h.head.1 hp) h.table
      rw [hchoice] at hhead ⊢
      refine h.setHead ?_ ⟨fun _ => hhead, fun hn => absurd hp (by simpa using hn)⟩
      unfold chooseCritical
      split <;> rfl
    have hp' : (chooseCritical s).isPlant = true := by
      rw [hchoice]
      exact hp
    have hact' := hchosen.active_of_isPlant hp'
    have hmoved := hchosen.setHead (b := (moveHead (chooseCritical s)).head) rfl
      ⟨fun _ => HeadActive.moveHead (hchosen.head.1 hp') (hchosen.descriptorOk hact') (hchosen.bandOk hact')
        (config_role_of_isPlant hp'), fun hn => absurd hp' (by simpa using hn)⟩
    exact (hmoved.sendDrive _).changeTrigger
  next => exact h

end Units
end Sys2Proof.Machine
end

section
/-! The Peer Table (spec/01): what the operations on its entries make of a table in order (R5), the bounds of what a report
brings (R7 to R9), and the invariant at its events. -/

namespace Sys2Proof.Machine

/-! ### Entries in order (R5) -/

theorem findEntry_eq_some {number : Nat} {entries : List PeerEntry} {e : PeerEntry}
    (h : findEntry number entries = some e) : e ∈ entries ∧ e.number = number :=
  ⟨List.mem_of_find?_eq_some h, by simpa using List.find?_some h⟩

theorem findEntry_eq_none_iff {number : Nat} {entries : List PeerEntry} :
    findEntry number entries = none ↔ ∀ e ∈ entries, e.number ≠ number := by
  simp [findEntry]

/-- A number stands in a table in order at most once. -/
theorem Ascending.eq_of_number {entries : List PeerEntry} (h : Ascending entries) {a b : PeerEntry} (ha : a ∈ entries)
    (hb : b ∈ entries) (hnum : a.number = b.number) : a = b := by
  induction entries with
  | nil => exact nomatch ha
  | cons x rest ih =>
    obtain ⟨hlow, hrest⟩ := List.pairwise_cons.1 h
    rcases List.mem_cons.1 ha with hax | ha <;> rcases List.mem_cons.1 hb with hbx | hb
    · rw [hax, hbx]
    · exact absurd hnum (hax ▸ (hlow b hb).ne)
    · exact absurd hnum.symm (hbx ▸ (hlow a ha).ne)
    · exact ih hrest ha hb

theorem findEntry_of_mem {entries : List PeerEntry} (h : Ascending entries) {e : PeerEntry} (he : e ∈ entries) :
    findEntry e.number entries = some e := by
  cases hf : findEntry e.number entries with
  | none => exact absurd rfl (findEntry_eq_none_iff.1 hf e he)
  | some x =>
    obtain ⟨hx, hnum⟩ := findEntry_eq_some hf
    rw [h.eq_of_number hx he hnum]

/-- A new entry stands before the first of a higher number (R5). -/
theorem insertEntry_split (e : PeerEntry) {entries : List PeerEntry} (hasc : Ascending entries)
    (hnew : ∀ x ∈ entries, x.number ≠ e.number) :
    ∃ before after, entries = before ++ after ∧ insertEntry e entries = before ++ e :: after
      ∧ (∀ x ∈ before, x.number < e.number) ∧ ∀ x ∈ after, e.number < x.number := by
  induction entries with
  | nil => exact ⟨[], [], rfl, rfl, by simp, by simp⟩
  | cons x rest ih =>
    obtain ⟨hlow, hrest⟩ := List.pairwise_cons.1 hasc
    obtain ⟨hx, hnew'⟩ := List.forall_mem_cons.1 hnew
    by_cases hlt : e.number < x.number
    · refine ⟨[], x :: rest, rfl, by simp [insertEntry, hlt], by simp, fun y hy => ?_⟩
      rcases List.mem_cons.1 hy with rfl | hy
      · exact hlt
      · exact hlt.trans (hlow y hy)
    · obtain ⟨before, after, rfl, hins, hbefore, hafter⟩ := ih hrest hnew'
      refine ⟨x :: before, after, rfl, by simp [insertEntry, hlt, hins], fun y hy => ?_, hafter⟩
      rcases List.mem_cons.1 hy with rfl | hy
      · omega
      · exact hbefore y hy

theorem Ascending.insertEntry {e : PeerEntry} {entries : List PeerEntry} (hasc : Ascending entries)
    (hnew : ∀ x ∈ entries, x.number ≠ e.number) : Ascending (insertEntry e entries) := by
  obtain ⟨before, after, rfl, hins, hbefore, hafter⟩ := insertEntry_split e hasc hnew
  obtain ⟨hb, ha, hba⟩ := List.pairwise_append.1 hasc
  rw [hins]
  refine List.pairwise_append.2 ⟨hb, List.pairwise_cons.2 ⟨hafter, ha⟩, fun x hx y hy => ?_⟩
  rcases List.mem_cons.1 hy with rfl | hy
  · exact hbefore x hx
  · exact hba x hx y hy

theorem mem_insertEntry {e x : PeerEntry} {entries : List PeerEntry} (h : x ∈ insertEntry e entries) :
    x = e ∨ x ∈ entries := by
  induction entries with
  | nil => exact .inl (by simpa [insertEntry] using h)
  | cons y rest ih =>
    unfold insertEntry at h
    split at h
    · exact List.mem_cons.1 h
    · rcases List.mem_cons.1 h with rfl | h
      · exact .inr List.mem_cons_self
      · exact (ih h).imp_right (List.mem_cons_of_mem y)

@[simp] theorem insertEntry_length (e : PeerEntry) (entries : List PeerEntry) :
    (insertEntry e entries).length = entries.length + 1 := by
  induction entries with
  | nil => rfl
  | cons y rest ih =>
    unfold insertEntry
    split <;> simp [ih]

theorem Ascending.removeEntry {entries : List PeerEntry} (h : Ascending entries) (number : Nat) :
    Ascending (removeEntry number entries) := h.filter _

theorem mem_removeEntry {number : Nat} {entries : List PeerEntry} {x : PeerEntry} :
    x ∈ removeEntry number entries ↔ x ∈ entries ∧ x.number ≠ number := by
  simp [removeEntry]

theorem removeEntry_length_lt {entries : List PeerEntry} {e : PeerEntry} (h : e ∈ entries) :
    (removeEntry e.number entries).length < entries.length := by
  rw [removeEntry, List.length_filter_lt_length_iff_exists]
  exact ⟨e, h, by simp⟩

/-- An exchange of entries that keeps their numbers keeps their order. -/
theorem Ascending.map {entries : List PeerEntry} (h : Ascending entries) {f : PeerEntry → PeerEntry}
    (hf : ∀ e, (f e).number = e.number) : Ascending (entries.map f) :=
  List.pairwise_map.2 (h.imp fun hlt => by simpa [hf] using hlt)

/-! ### The oldest entry and the victim (R23) -/

/-- v is the oldest of the entries that satisfy p, the lowest number among equals (R23). -/
def IsOldest (p : PeerEntry → Bool) (entries : List PeerEntry) (v : PeerEntry) : Prop :=
  v ∈ entries ∧ p v = true ∧ ∀ e ∈ entries, p e = true → e.age < v.age ∨ (e.age = v.age ∧ v.number ≤ e.number)

theorem oldest_cases (p : PeerEntry → Bool) {entries : List PeerEntry} (hasc : Ascending entries) :
    (oldest p entries = none ∧ ∀ e ∈ entries, p e = false)
      ∨ ∃ v, oldest p entries = some v ∧ IsOldest p entries v := by
  induction entries with
  | nil => exact .inl ⟨rfl, by simp⟩
  | cons e rest ih =>
    obtain ⟨hlow, hrest⟩ := List.pairwise_cons.1 hasc
    rcases ih hrest with ⟨hnone, hno⟩ | ⟨v, hsome, hv, hpv, hold⟩
    · cases hp : p e with
      | false => exact .inl ⟨by simp [oldest, hnone, hp], by simpa [hp] using hno⟩
      | true =>
        refine .inr ⟨e, by simp [oldest, hnone, hp], List.mem_cons_self, hp, fun x hx hpx => ?_⟩
        rcases List.mem_cons.1 hx with rfl | hx
        · exact .inr ⟨rfl, le_rfl⟩
        · simp [hno x hx] at hpx
    · by_cases hwins : p e = true ∧ v.age ≤ e.age
      · refine .inr ⟨e, by simp [oldest, hsome, hwins], List.mem_cons_self, hwins.1, fun x hx hpx => ?_⟩
        rcases List.mem_cons.1 hx with rfl | hx
        · exact .inr ⟨rfl, le_rfl⟩
        · have := hold x hx hpx
          have := hlow x hx
          omega
      · refine .inr ⟨v, by simp [oldest, hsome, hwins], List.mem_cons_of_mem e hv, hpv, fun x hx hpx => ?_⟩
        rcases List.mem_cons.1 hx with rfl | hx
        · exact .inl (by
            simp only [hpx, true_and, not_le] at hwins
            exact hwins)
        · exact hold x hx hpx

/-- The entry that gives way, or a table of IN_SECTOR entries none of which is LOST (R23, R24). -/
theorem victim_cases {entries : List PeerEntry} (hasc : Ascending entries) :
    (victim entries = none ∧ ∀ e ∈ entries, e.membership = .inSector ∧ e.freshness ≠ .lost)
      ∨ ∃ v, victim entries = some v ∧ IsVictim entries v := by
  unfold victim
  rcases oldest_cases (fun e => decide (e.freshness = .lost)) hasc with ⟨hnone, hno⟩ | ⟨v, hsome, hv, hlost, hold⟩
  · rw [hnone]
    have hfresh : ∀ e ∈ entries, e.freshness ≠ .lost := fun e he => by simpa using hno e he
    rcases oldest_cases (fun e => decide (e.membership = .outside)) hasc with ⟨hnone', hno'⟩ | ⟨v, hsome, hv, hout, hold⟩
    · refine .inl ⟨hnone', fun e he => ⟨?_, hfresh e he⟩⟩
      have := hno' e he
      cases hm : e.membership <;> simp_all
    · exact .inr ⟨v, hsome, hv, .inr ⟨hfresh, by simpa using hout, fun e he hm => hold e he (by simpa using hm)⟩⟩
  · rw [hsome]
    exact .inr ⟨v, rfl, hv, .inl ⟨by simpa using hlost, fun e he hm => hold e he (by simpa using hm)⟩⟩

/-- At most one entry can give way. -/
theorem IsVictim.unique {entries : List PeerEntry} (hasc : Ascending entries) {v w : PeerEntry}
    (hv : IsVictim entries v) (hw : IsVictim entries w) : v = w := by
  obtain ⟨hvm, hv⟩ := hv
  obtain ⟨hwm, hw⟩ := hw
  refine hasc.eq_of_number hvm hwm ?_
  rcases hv with ⟨hvl, hvo⟩ | ⟨hvn, hvout, hvo⟩ <;> rcases hw with ⟨hwl, hwo⟩ | ⟨hwn, hwout, hwo⟩
  · have := hvo w hwm hwl
    have := hwo v hvm hvl
    omega
  · exact absurd hvl (hwn v hvm)
  · exact absurd hwl (hvn w hwm)
  · have := hvo w hwm hwout
    have := hwo v hvm hvout
    omega

/-! ### What a report brings (R7 to R9) -/

theorem mandatory_le {top : Nat} {w : HalfWord} {n : Nat} (h : mandatory top w = some n) : n ≤ top := by
  obtain ⟨m, -, rfl⟩ := Option.map_eq_some_iff.1 h
  exact Nat.min_le_left _ _

theorem readMargin_mem {w : HalfWord} {m : Int} (h : readMargin w = some m) : -3000 ≤ m ∧ m ≤ 3000 := by
  obtain ⟨k, -, rfl⟩ := Option.map_eq_some_iff.1 h
  exact clampInt_mem (by omega) _

theorem readClass_le {c : Byte} {n : Nat} (h : readClass c = some n) : n ≤ 3 := by
  unfold readClass at h
  split at h
  · exact nomatch h
  · obtain rfl := by simpa using h
    exact Nat.min_le_left _ _

theorem readCritical_mem {w : HalfWord} {n : Nat} (h : readCritical w = some n) : 1 ≤ n ∧ n ≤ 239 := by
  unfold readCritical at h
  split at h
  · split at h
    next hin =>
      obtain rfl := by simpa using h
      exact hin
    next => exact nomatch h
  · exact nomatch h

theorem readTransferPart_ok {f : Frame} {t : TransferPart} (h : readTransferPart f = some t) :
    PartOk (.transfer t) := by
  simp only [readTransferPart, Option.bind_eq_bind, Option.bind_eq_some_iff] at h
  obtain ⟨qr, hqr, grant, hgrant, valve, hvalve, cls, hcls, outcome, -, h⟩ := h
  split at h
  · exact nomatch h
  · obtain rfl := Option.some.inj h
    exact ⟨mandatory_le hqr, readClass_le hcls, mandatory_le hgrant, mandatory_le hvalve, fun m hm => readMargin_mem hm⟩

theorem readPlantPart_ok {f : Frame} {p : PlantPart} (h : readPlantPart f = some p) : PartOk (.plant p) := by
  simp only [readPlantPart, Option.bind_eq_bind, Option.bind_eq_some_iff] at h
  obtain ⟨offer, hoffer, head, hhead, h⟩ := h
  obtain rfl := Option.some.inj h
  exact ⟨mandatory_le hoffer, mandatory_le hhead, fun q hq => mandatory_le hq, fun n hn => readCritical_mem hn,
    fun m hm => readMargin_mem hm⟩

/-- Every value that a well-formed report brings lies in its range (R9). -/
theorem readReport_ok {f : Frame} {b : ReportBody} (h : readReport f = some b) : PartOk b.part := by
  simp only [readReport, Option.bind_eq_bind, Option.bind_eq_some_iff] at h
  obtain ⟨mode, -, role, -, h⟩ := h
  split at h
  · exact nomatch h
  · split at h
    next =>
      obtain ⟨part, hpart, h⟩ := Option.bind_eq_some_iff.1 h
      obtain rfl := Option.some.inj h
      exact readTransferPart_ok hpart
    next =>
      obtain ⟨part, hpart, h⟩ := Option.bind_eq_some_iff.1 h
      obtain rfl := Option.some.inj h
      exact readPlantPart_ok hpart

/-! ### Entries as R5, R6, R10, R18 and R19 say they are -/

theorem countUp_le (n : Nat) : countUp n ≤ 65535 := Nat.min_le_left _ _

theorem countUp_pos (n : Nat) : 1 ≤ countUp n := by
  simp only [countUp, Config.counterMax]
  omega

/-- An entry after an acceptance is FRESH, of age 0 (R17). -/
theorem EntryOk.accepted {d : Descriptor} (hd : DescriptorOk d) {number count : Nat} {membership : Membership} {f : Frame}
    {b : ReportBody} (hnum : 1 ≤ number ∧ number ≤ 239) (hown : number ≠ d.number)
    (hmem : membership = membershipOf d number) (hb : PartOk b.part) :
    EntryOk d (acceptedEntry number membership count f b) := by
  have hstale := hd.inRange (lo := 2) (v := d.staleTime) (hi := 60) (by simp [Descriptor.tunables])
  refine ⟨hnum, hown, hmem, Nat.zero_le _, rfl, ?_, ⟨countUp_pos _, countUp_le _⟩, hb⟩
  have : (0 : Nat) < d.staleTime := by omega
  simp [acceptedEntry, freshnessOfAge, this]

/-- The freshness follows the age past its stale and its lost expiry (R19). -/
theorem freshnessAt_succ {d : Descriptor} (h : d.staleTime < d.lostTime) (age : Nat) :
    freshnessAt d (age + 1) (freshnessOfAge d age) = freshnessOfAge d (age + 1) := by
  unfold freshnessOfAge
  by_cases h1 : age < d.staleTime
  · by_cases h2 : age + 1 < d.staleTime
    · have : age + 1 ≠ d.staleTime := by omega
      simp [h1, h2, freshnessAt, this]
    · have : age + 1 = d.staleTime := by omega
      simp [h1, freshnessAt, this, h]
  · by_cases h2 : age < d.lostTime
    · by_cases h3 : age + 1 < d.lostTime
      · have h4 : age + 1 ≠ d.lostTime := by omega
        have h5 : ¬ age + 1 < d.staleTime := by omega
        simp [h1, h2, h3, freshnessAt, h4, h5]
      · have h4 : age + 1 = d.lostTime := by omega
        have h5 : ¬ age + 1 < d.staleTime := by omega
        simp [h1, h2, freshnessAt, h4]
        omega
    · have h4 : ¬ age + 1 < d.lostTime := by omega
      have h5 : ¬ age + 1 < d.staleTime := by omega
      simp [h1, h2, h4, freshnessAt, h5]

theorem EntryOk.aged {d : Descriptor} (hd : DescriptorOk d) {e : PeerEntry} (h : EntryOk d e)
    (hrun : e.ageTimer.isRunning = true) : EntryOk d (agedEntry d e) := by
  obtain ⟨hnum, hown, hmem, -, htimer, hfresh, hcount, hpart⟩ := h
  obtain ⟨-, -, -, horder, -⟩ := hd
  have hage : e.age < 65535 := by simpa [hrun] using htimer
  refine ⟨hnum, hown, hmem, hage, ?_, ?_, hcount, hpart⟩
  · simp only [agedEntry]
    split
    next hlt => exact (decide_eq_true hlt).symm
    next hlt => exact (decide_eq_false hlt).symm
  · simp only [agedEntry]
    rw [hfresh]
    exact freshnessAt_succ horder e.age

/-! ### The invariant at the Peer Table's events -/

section Table

variable {s : State}

/-- Entries in order and in their ranges may take the place of those of the table. -/
theorem EventOk.setEntries (h : EventOk s) (hact : s.active = true) {entries : List PeerEntry}
    (hlen : entries.length ≤ 48) (hasc : Ascending entries) (hok : ∀ e ∈ entries, EntryOk s.config e) :
    EventOk (setEntries entries s) :=
  h.setPeers ⟨hlen, hasc, hok, fun hs => by simp [hact] at hs⟩

theorem EventOk.ascending (h : EventOk s) : Ascending s.peers.entries := h.table.2.1

/-- An entry of the same number takes the place of one of the table. -/
theorem EventOk.replaceEntry (h : EventOk s) (hact : s.active = true) {e : PeerEntry} (he : EntryOk s.config e) :
    EventOk (Machine.setEntries (Machine.replaceEntry e s.peers.entries) s) := by
  obtain ⟨hlen, hasc, hok, -⟩ := h.table
  refine h.setEntries hact (by simpa [Machine.replaceEntry] using hlen) (Ascending.map hasc fun x => ?_) fun x hx => ?_
  · split
    next heq => exact heq.symm
    next => rfl
  · obtain ⟨y, hy, rfl⟩ := List.mem_map.1 hx
    split
    · exact he
    · exact hok y hy

theorem EventOk.ageTimerExpiry (h : EventOk s) (number : Nat) : EventOk (ageTimerExpiry number s) := by
  unfold Machine.ageTimerExpiry
  split
  next e hfind =>
    split
    next hcond =>
      obtain ⟨hact, hrun⟩ := Bool.and_eq_true_iff.1 hcond
      have he := (findEntry_eq_some hfind).1
      obtain ⟨-, -, hok, -⟩ := h.table
      exact (h.replaceEntry hact ((hok e he).aged (h.descriptorOk hact) hrun)).noticeIf _
    next => exact h
  next => exact h

theorem EventOk.acceptInto (h : EventOk s) (hact : s.active = true) {e : PeerEntry} (he : e ∈ s.peers.entries)
    (count : Nat) (f : Frame) {b : ReportBody} (hb : PartOk b.part) : EventOk (acceptInto e count f b s) := by
  obtain ⟨-, -, hok, -⟩ := h.table
  obtain ⟨hnum, hown, hmem, -⟩ := hok e he
  exact (h.replaceEntry hact (EntryOk.accepted (h.descriptorOk hact) hnum hown hmem hb)).noticeIf _

/-- A new entry among entries of the table that leave room for it (R14). -/
theorem EventOk.createIn (h : EventOk s) (hact : s.active = true) {entries : List PeerEntry} (hlen : entries.length < 48)
    (hasc : Ascending entries) (hsub : ∀ e ∈ entries, e ∈ s.peers.entries) {number : Nat}
    (hnew : ∀ e ∈ entries, e.number ≠ number) (hnum : 1 ≤ number ∧ number ≤ 239) (hown : number ≠ s.config.number)
    (f : Frame) {b : ReportBody} (hb : PartOk b.part) : EventOk (createIn entries number f b s) := by
  obtain ⟨-, -, hok, -⟩ := h.table
  refine (h.setEntries hact ?_ (hasc.insertEntry hnew) fun e he => ?_).noticeIf _
  · simpa using hlen
  · rcases mem_insertEntry he with rfl | he
    · exact EntryOk.accepted (h.descriptorOk hact) hnum hown rfl hb
    · exact hok e (hsub e he)

theorem EventOk.placeReport (h : EventOk s) (hact : s.active = true) {number : Nat} (hnum : 1 ≤ number ∧ number ≤ 239)
    (hown : number ≠ s.config.number) (f : Frame) {b : ReportBody} (hb : PartOk b.part) :
    EventOk (placeReport number f b s) := by
  have hcount (n m : Nat) : EventOk (s.setPeers { s.peers with duplicates := n, outOfOrder := m }) := h.setPeers h.table
  unfold Machine.placeReport
  split
  next e hfind =>
    have he := (findEntry_eq_some hfind).1
    split
    · exact h.acceptInto hact he _ f hb
    · split
      · exact h.acceptInto hact he _ f hb
      · dsimp only
        split
        · exact hcount _ _
        · split
          · exact h.acceptInto hact he _ f hb
          · exact hcount _ _
  next hfind =>
    have hnew := findEntry_eq_none_iff.1 hfind
    split
    next hroom => exact h.createIn hact hroom h.ascending (fun _ he => he) hnew hnum hown f hb
    next =>
      split
      next v hv =>
        have hvm : v ∈ s.peers.entries := by
          rcases victim_cases h.ascending with ⟨hnone, -⟩ | ⟨w, hsome, hw, -⟩
          · simp [hnone] at hv
          · obtain rfl : w = v := by simpa [hsome] using hv
            exact hw
        exact h.createIn hact ((removeEntry_length_lt hvm).trans_le h.table.1) (h.ascending.removeEntry _)
          (fun _ he => (mem_removeEntry.1 he).1) (fun e he => hnew e (mem_removeEntry.1 he).1) hnum hown f hb
      next =>
        exact (h.setPeers (b := { s.peers with tableRefusals := countUp s.peers.tableRefusals }) h.table).setLatch _

theorem EventOk.takeReport (h : EventOk s) (hact : s.active = true) (f : Frame) : EventOk (takeReport f s) := by
  unfold Machine.takeReport
  dsimp only
  split
  · exact h.setLatch _
  next hown =>
    split
    · exact h
    next hnum =>
      split
      next b hb => exact h.placeReport hact (by omega) hown f (readReport_ok hb)
      next => exact h

theorem EventOk.takeAlarm (h : EventOk s) (hact : s.active = true) (f : Frame) : EventOk (takeAlarm f s) := by
  unfold Machine.takeAlarm
  dsimp only
  split
  · exact h.setLatch _
  · split
    · exact h
    · obtain ⟨hlen, hasc, hok, -⟩ := h.table
      refine h.setEntries hact (by simpa [setWordOf] using hlen) (Ascending.map hasc fun x => ?_) fun x hx => ?_
      · split <;> rfl
      · obtain ⟨y, hy, rfl⟩ := List.mem_map.1 hx
        split
        · exact hok y hy
        · exact hok y hy

/-- The frame at the front is taken out of the Receive Queue in JOINING, RUNNING and HOLD (R156). -/
theorem takeFront_eq_some {p : Frame → Bool} {t : State} {f : Frame} (h : takeFront p s = some (f, t)) :
    ∃ rest, s.line.rxQueue = f :: rest ∧ s.active = true ∧ p f = true ∧ t = s.withoutFront rest := by
  unfold takeFront at h
  split at h
  next => exact nomatch h
  next g rest hq =>
    split at h
    next hcond =>
      obtain ⟨hact, hp⟩ := Bool.and_eq_true_iff.1 hcond
      obtain ⟨rfl, rfl⟩ := by simpa using h
      exact ⟨rest, hq, hact, hp, rfl⟩
    next => exact nomatch h

theorem EventOk.withoutFront (h : EventOk s) (hact : s.active = true) {f : Frame} {rest : List Frame}
    (hq : s.line.rxQueue = f :: rest) : EventOk (s.withoutFront rest) := by
  have hlen := h.queues.rxBound
  rw [hq, List.length_cons] at hlen
  exact h.setLine ⟨by simpa using Nat.le_of_succ_le hlen, h.queues.2, h.queues.3, fun hs => by simp [hact] at hs,
    h.queues.5, h.queues.6⟩ h.attempt

theorem EventOk.takeStationReport (h : EventOk s) : EventOk (takeStationReport s) := by
  unfold Machine.takeStationReport
  split
  next f t hf =>
    obtain ⟨rest, hq, hact, -, rfl⟩ := takeFront_eq_some hf
    exact (h.withoutFront hact hq).takeReport hact f
  next => exact h

theorem EventOk.takeAlarmFrame (h : EventOk s) : EventOk (takeAlarmFrame s) := by
  unfold Machine.takeAlarmFrame
  split
  next f t hf =>
    obtain ⟨rest, hq, hact, -, rfl⟩ := takeFront_eq_some hf
    exact (h.withoutFront hact hq).takeAlarm hact f
  next => exact h

theorem EventOk.forgetEntry (h : EventOk s) (hact : s.active = true) (number : Nat) :
    EventOk (forgetEntry number s) := by
  obtain ⟨hlen, -, hok, -⟩ := h.table
  unfold Machine.forgetEntry
  split
  · exact (h.setEntries hact ((List.length_filter_le _ _).trans hlen) (h.ascending.removeEntry number)
      fun e he => hok e (mem_removeEntry.1 he).1).noticeIf _
  · exact h

end Table
end Sys2Proof.Machine
end

section
/-! The invariant at Station Control after start-up (spec/08) and at the Command Handler (spec/10). -/

namespace Sys2Proof.Machine

section Modes

variable {s : State}

/-! ### The mode (R139 to R141) -/

/-- Station Control may move a station that has left STARTING to RUNNING or HOLD, its configuration standing. -/
theorem EventOk.setMode (h : EventOk s) (hact : s.active = true) {c : StationControl} (hspeak : c.mode.speaking = true)
    (hd : c.descriptor = s.control.descriptor) (hb : c.driveBand = s.control.driveBand)
    (hmode : ModeHeld (s.setControl c))
    (hdue : s.condition.alarmDue = true → s.line.holdsAlarm = true) : EventOk (s.setControl c) := by
  have hspeak' : (s.setControl c).speaking = true := hspeak
  have hact' : (s.setControl c).active = true := speaking_active hspeak'
  have hnot {p : Prop} (hs : (s.setControl c).active = false) : p := by simp [hact'] at hs
  have hnot' {p : Prop} (hs : (s.setControl c).speaking = false) : p := by simp [hspeak'] at hs
  have hconfig : (s.setControl c).config = s.config := by simp [State.config, hd]
  have hband : (s.setControl c).band = s.band := by simp [State.band, hb]
  have hplant : (s.setControl c).isPlant = s.isPlant := by simp [State.isPlant, hd]
  have htransfer : (s.setControl c).isTransfer = s.isTransfer := by simp [State.isTransfer, hd]
  have hjoin : (s.setControl c).control.mode ≠ .joining := fun hj => by
    change c.mode = .joining at hj
    simp [hj, Mode.speaking] at hspeak
  refine ⟨⟨?_, ?_, fun _ => ?_⟩, hmode, ⟨h.queues.rxBound, h.queues.tx, h.queues.unstarted, hnot, hnot',
    fun hdue' _ => hdue hdue'⟩, ?_, ?_, ?_, ?_, ?_, ?_, ?_, ⟨h.reports.1, hnot'⟩⟩
  · rw [hact', ← hact, ← h.config.1]
    exact congrArg Option.isSome hd
  · rw [hact', ← hact, ← h.config.2.1]
    exact congrArg Option.isSome hb
  · rw [hconfig, hband]
    exact h.config.2.2 hact
  · obtain ⟨ha8, hjam, hw, hh, hdraw, hin, hown, hidle, hrec, -, hsil, -⟩ := h.attempt
    exact ⟨ha8, hjam, hw, hh, hdraw, hin, hown, hidle, hrec, hnot, by simpa [hact, hact'] using hsil, hnot⟩
  · obtain ⟨hlen, hasc, hok, -⟩ := h.table
    exact ⟨hlen, hasc, by rw [hconfig]; exact hok, hnot⟩
  · obtain ⟨hactive, hpend, hbt, hst, hshed, hrest⟩ := h.limit
    refine ⟨hactive, hpend, hbt, hst, by rw [hconfig]; exact hshed, ?_⟩
    rintro (hs | hp)
    · exact hnot' hs
    · exact hrest (.inr (hplant ▸ hp))
  · obtain ⟨hfields, hdpf, htop, hset, hin, -⟩ := h.measure
    exact ⟨hfields, hdpf, htop, by rw [hconfig]; exact hset, fun _ => by rw [hconfig]; exact hin hact, hnot⟩
  · obtain ⟨hgrant, hreq, hrest⟩ := h.share
    refine ⟨hgrant, hreq, ?_⟩
    rintro (hs | hp)
    · exact hnot' hs
    · exact hrest (.inr (hplant ▸ hp))
  · refine ⟨fun ht => ?_, fun ht => h.valve.2 (htransfer ▸ ht)⟩
    obtain ⟨hl, hq, hv, hst, hsd, hm, hdt⟩ := h.valve.1 (htransfer ▸ ht)
    exact ⟨by rw [hconfig]; exact hl, hq, by rw [hband]; exact hv, by rw [hconfig]; exact hst,
      by rw [hconfig]; exact hsd, hm, hdt⟩
  · refine ⟨fun hp => ?_, fun hp => h.head.2 (hplant ▸ hp)⟩
    obtain ⟨hset, hcrit, hnum, hmarg, hmove, hoffer, hcount, hmax, -⟩ := h.head.1 (hplant ▸ hp)
    exact ⟨by rw [hband]; exact hset, hcrit, hnum, hmarg, hmove, hoffer, hcount, hmax, fun hj => absurd hj hjoin⟩

/-- What the clauses of Station Control ask of a mode after JOINING (R138, R170). -/
theorem ModeHeld.setMode (h : ModeHeld s) (hact : s.active = true) {m : Mode} (hspeak : m.speaking = true) {t : Timer}
    (ht : t.isRunning = decide (m = .hold)) :
    ModeHeld (s.setControl { s.control with mode := m, joinTimer := .stopped, holdTimer := t }) := by
  obtain ⟨-, -, hsafe, hpin, hcode, hlane, hcause, hvt, hht⟩ := h
  have hmode : s.control.mode ≠ .starting ∧ s.control.mode ≠ .unconfigured := by
    constructor <;> intro hm <;> simp [State.active, Mode.active, hm] at hact
  obtain ⟨hstarting, hunconf, hjoining⟩ : m ≠ .starting ∧ m ≠ .unconfigured ∧ m ≠ .joining := by
    refine ⟨?_, ?_, ?_⟩ <;> intro hm <;> simp [Mode.speaking, hm] at hspeak
  have hpin' : s.control.pinAsserted = false := by
    by_contra hp
    exact hmode.1 (hpin (by simpa using hp)).1
  have hcause' : s.control.restartCause = false := by
    by_contra hc
    exact hmode.1 (hcause (by simpa using hc))
  refine ⟨(decide_eq_false hjoining).symm, ht, ?_, fun hp => ?_, hcode, ?_, fun hc => ?_, hvt, hht⟩
  · exact hsafe.trans ((decide_eq_false hmode.2).trans (decide_eq_false hunconf).symm)
  · exact absurd (hp.symm.trans hpin') (by decide)
  · simpa [hpin', hmode, hstarting] using hlane
  · exact absurd (hc.symm.trans hcause') (by decide)

/-- In RUNNING and HOLD the join timer is stopped (R139). -/
theorem EventOk.joinTimer_of_speaking (h : EventOk s) (hs : s.speaking = true) : s.control.joinTimer = .stopped := by
  obtain ⟨hjoin, -⟩ := h.mode
  have hm : s.control.mode ≠ .joining := fun hm => by simp [State.speaking, Mode.speaking, hm] at hs
  rw [decide_eq_false hm] at hjoin
  cases ht : s.control.joinTimer with
  | stopped => rfl
  | running n => simp [ht] at hjoin

/-- In RUNNING and HOLD an ALARM is in the queue while alarm-due is set, and stays there with a move of the mode (R149). -/
theorem EventOk.moveMode (h : EventOk s) (hs : s.speaking = true) {m : Mode} (hm : m.speaking = true) {t : Timer}
    (ht : t.isRunning = decide (m = .hold)) : EventOk (s.setControl { s.control with mode := m, holdTimer := t }) := by
  have hact := speaking_active hs
  have hmode := h.mode.setMode hact hm ht
  rw [← h.joinTimer_of_speaking hs] at hmode
  exact h.setMode hact hm rfl rfl hmode fun hdue => h.queues.alarmDue hdue hs

theorem EventOk.enterHold (h : EventOk s) (hs : s.speaking = true) (duration : Nat) : EventOk (enterHold duration s) :=
  h.moveMode hs rfl rfl

theorem EventOk.releaseHold (h : EventOk s) (hs : s.speaking = true) : EventOk (releaseHold s) := by
  unfold Machine.releaseHold
  split
  · exact h.moveMode hs rfl rfl
  · exact h

theorem EventOk.holdTimerExpiry (h : EventOk s) : EventOk (holdTimerExpiry s) := by
  unfold Machine.holdTimerExpiry
  split
  next hrun =>
    obtain ⟨-, hhold, -⟩ := h.mode
    have hm : s.control.mode = .hold := by simpa [hrun] using hhold
    have hs : s.speaking = true := by simp [State.speaking, Mode.speaking, hm]
    exact (h.moveMode hs (m := .running) rfl rfl).setLatch _
  next => exact h

/-- The entry to RUNNING, with report-due set and the ALARM that alarm-due calls for still to be offered (R45, R139, R149). -/
theorem EventOk.enterRunning (h : EventOk s) (hm : s.control.mode = .joining) (interval : Timer) :
    EventOk (Machine.setAlarmDue false ((s.setControl { s.control with mode := .running, joinTimer := .stopped }).setReports
      { s.reports with reportDue := true, intervalTimer := interval })) := by
  have hact : s.active = true := by simp [State.active, Mode.active, hm]
  obtain ⟨-, hhold, -⟩ := h.mode
  have hquiet : EventOk (Machine.setAlarmDue false s) := h.setCondition nofun
  have hmode := hquiet.mode.setMode hact (m := .running) rfl (t := s.control.holdTimer) (by simpa [hm] using hhold)
  have hrun := hquiet.setMode hact (c := { s.control with mode := .running, joinTimer := .stopped }) rfl rfl rfl hmode
    nofun
  exact hrun.setReports (b := { s.reports with reportDue := true, intervalTimer := interval }) ⟨h.reports.1, nofun⟩

theorem EventOk.joinTimerExpiry (h : EventOk s) (order : OfferOrder) : EventOk (joinTimerExpiry order s) := by
  unfold Machine.joinTimerExpiry
  split
  next hrun =>
    obtain ⟨hjoin, -⟩ := h.mode
    have hm : s.control.mode = .joining := by simpa [hrun] using hjoin
    have hempty : s.line.txEntries = [] := h.queues.txRest (by simp [State.speaking, Mode.speaking, hm])
    have hnone : s.line.holdsAlarm = false := by simp [LineUnit.holdsAlarm, hempty]
    have hready := h.enterRunning hm (startSeconds s.config.reportInterval)
    dsimp only
    generalize hu : (s.setControl { s.control with mode := .running, joinTimer := .stopped }).setReports
      { s.reports with reportDue := true, intervalTimer := startSeconds s.config.reportInterval } = u at hready
    have hspeak : u.speaking = true := by
      subst hu
      rfl
    have hal : u.line.holdsAlarm = false := by
      subst hu
      exact hnone
    cases order with
    | alarmFirst => exact hu ▸ (hready.offerDueAlarm hspeak hal).arbitrate.queueReport
    | otherFirst =>
      have hqueued : EventOk (Machine.setAlarmDue false (Machine.arbitrate (Machine.queueReport u))) := by
        rw [← arbitrate_setAlarmDue, ← queueReport_setAlarmDue]
        exact hready.queueReport.arbitrate
      exact hu ▸ hqueued.offerDueAlarm (by simpa using hspeak) (by simpa using hal)
  next => exact h

/-! ### The Command Handler -/

theorem EventOk.replyTo (h : EventOk s) (hs : s.speaking = true) (f : Frame) (restart : Bool) (body : List Group) :
    EventOk (replyTo f restart body s) := by
  unfold Machine.replyTo
  split
  · exact h
  · exact h.offerReply hs _

theorem EventOk.countAccepted (h : EventOk s) : EventOk (countAccepted s) := h.setCommand _

/-- An admitted command keeps the invariant if its effect does and leaves the mode one of RUNNING and HOLD. -/
theorem EventOk.admitCommand {kind : Kind} {effect : Frame → State → State} {f : Frame}
    (h : EventOk (effect f s)) (hs : (effect f s).speaking = true) : EventOk (admitCommand kind effect f s) :=
  h.countAccepted.replyTo hs _ _ _

theorem EventOk.clearConditions (h : EventOk s) (mask : BitVec 24) : EventOk (clearConditions mask s) := by
  have hclear : EventOk (s.setCondition
      { s.condition with latches := s.condition.latches &&& ~~~ (mask.extractLsb' 0 14) }) :=
    h.setCondition h.queues.alarmDue
  unfold Machine.clearConditions
  dsimp only
  split
  · refine hclear.setMeasure ?_
    obtain ⟨hfields, hdpf, htop, hset, hin, hrest⟩ := h.measure
    refine ⟨hfields, hdpf, htop, hset, fun hact i => ⟨?_, (hin hact i).2⟩, fun hs => ?_⟩
    · simpa [InputOk] using (hin hact i).1
    · have := hrest hs
      generalize s.measure.inputs.mapEach (fun v => v.raw) = raws at this
      simp [this, MeasurementUnit.atReset, PerInput.mapEach, Input.atReset]
  · exact hclear

@[simp] theorem clearConditions_speaking (mask : BitVec 24) (s : State) :
    (clearConditions mask s).speaking = s.speaking := by
  unfold clearConditions
  dsimp only
  split <;> rfl

theorem EventOk.admitClear (h : EventOk s) (hs : s.speaking = true) (f : Frame) : EventOk (admitClear f s) := by
  unfold Machine.admitClear
  split
  · exact EventOk.admitCommand (h.clearConditions _) (by simpa using hs)
  · exact (EventOk.admitCommand (effect := noEffect) h hs).clearConditions _

theorem EventOk.admitShed (h : EventOk s) (hs : s.speaking = true) (hp : s.isPlant = false) (order : OfferOrder)
    (f : Frame) : EventOk (admitShed order f s) := by
  have hthree : shedThreshold f ≤ 3 := Nat.min_le_left _ _
  have hmax : shedDuration f ≤ 3600 := Nat.min_le_left _ _
  unfold Machine.admitShed
  cases order with
  | alarmFirst =>
    have hshed := h.takeShed hs hp hthree hmax
    have hs' : (Machine.takeShed (shedThreshold f) (shedDuration f) s).speaking = true := by
      unfold Machine.takeShed
      (repeat' split) <;> simpa using hs
    exact hshed.countAccepted.arbitrate.replyTo (by simpa [Machine.countAccepted] using hs') _ _ _
  | otherFirst =>
    have hreply := (h.countAccepted.replyTo hs f false (acceptedBody .shed f (Machine.countAccepted s))).arbitrate
    refine hreply.takeShed ?_ ?_ hthree hmax
    · unfold Machine.replyTo
      split <;> simpa [Machine.countAccepted] using hs
    · unfold Machine.replyTo
      split <;> simpa [Machine.countAccepted] using hp

/-- A command at the front: the discards and refusals keep the invariant, and so does an admission that does so in RUNNING
and HOLD (R162 to R165). -/
theorem EventOk.takeCommand (h : EventOk s) {kind : Kind} {admitted : Frame → State → State}
    (hadmitted : ∀ f t, EventOk t → t.speaking = true → admission kind f t = .accepted → EventOk (admitted f t)) :
    EventOk (takeCommand kind admitted s) := by
  unfold Machine.takeCommand
  split
  next f t hf =>
    obtain ⟨rest, hq, hact, -, rfl⟩ := takeFront_eq_some hf
    have ht := h.withoutFront hact hq
    unfold handleCommand
    split
    · exact ht
    next hm =>
      have hs : (s.withoutFront rest).speaking = true := by
        rcases speaking_or_joining_or_inactive (s.withoutFront rest) with hs | hj | ha
        · exact hs
        · exact absurd hj hm
        · exact absurd (hact.symm.trans ha) (by decide)
      split
      · exact ht.setLatch _
      · split
        · exact ht
        · split
          next hacc => exact hadmitted f _ ht hs hacc
          next => exact EventOk.replyTo (s := countRefused (s.withoutFront rest)) (ht.setCommand _) hs _ _ _
  next => exact h

/-- A kind that only a transfer station carries out is admitted in no plant station (R163). -/
theorem not_isPlant_of_admission {kind : Kind} {f : Frame} (h : admission kind f s = .accepted)
    (hk : transferKind kind = true) : s.isPlant = false := by
  by_contra hp
  simp only [admission, hk, (by simpa using hp : s.isPlant = true), Bool.and_self, if_true] at h
  (repeat' split at h) <;> exact nomatch h

/-- The last admission check has passed (R164). -/
theorem valueCheck_of_admission {kind : Kind} {f : Frame} (h : admission kind f s = .accepted) :
    valueCheck kind f s = .accepted := by
  unfold admission at h
  split at h
  · exact nomatch h
  · split at h
    · exact nomatch h
    · split at h
      · exact nomatch h
      · split at h
        · exact nomatch h
        · split at h
          · exact nomatch h
          · exact h

theorem readBlock_ok {f : Frame} {b : Block} (h : readBlock f = some b) : BlockOk b := by
  simp only [readBlock, Option.bind_eq_bind, Option.bind_eq_some_iff] at h
  obtain ⟨mode, -, h⟩ := h
  split at h
  · exact nomatch h
  next hne =>
    obtain rfl := Option.some.inj h
    have := (Group.low (f.group 0)).isLt
    refine ⟨Nat.min_le_left _ _, ?_, ?_⟩
    · exact Nat.one_le_iff_ne_zero.2 hne
    · exact Nat.le_of_lt_succ this

theorem EventOk.limitBlockEffect (h : EventOk s) (hs : s.speaking = true) (hp : s.isPlant = false) (f : Frame) :
    EventOk (limitBlockEffect f s) := by
  unfold Machine.limitBlockEffect
  split
  next b hb => exact h.arriveBlock hs hp (readBlock_ok hb)
  next => exact h

/-- A command with no effect but its reply. -/
theorem EventOk.takeCommand_noEffect (h : EventOk s) (kind : Kind) :
    EventOk (Machine.takeCommand kind (Machine.admitCommand kind noEffect) s) :=
  h.takeCommand fun _ _ ht hs _ => EventOk.admitCommand (effect := noEffect) ht hs

end Modes
end Sys2Proof.Machine
end

section
/-! The descriptor (spec/11): what makes it valid (R170), the fields it holds (R182), clamping (R171) and the drive band
(R172). -/

namespace Sys2Proof.Machine

/-! ### The judgement of a descriptor (R170) -/

theorem readRole_eq_some_transfer {c : Byte} : readRole c = some .transfer ↔ c.toNat = 1 := by
  rw [show c.toNat = 1 ↔ c = 1#8 from (BitVec.toNat_inj (x := c) (y := 1#8))]
  unfold readRole
  split
  · simp_all
  · split <;> simp_all

theorem readRole_eq_some_plant {c : Byte} : readRole c = some .plant ↔ c.toNat = 2 := by
  rw [show c.toNat = 2 ↔ c = 2#8 from (BitVec.toNat_inj (x := c) (y := 2#8))]
  unfold readRole
  split
  · simp_all
  · split <;> simp_all

/-- The signature stands at the start, no character of it missing (R170, R182). -/
theorem signatureOk_iff (bytes : List Byte) :
    signatureOk bytes = true ↔ bytes.take 4 = [0x6B#8, 0x47#8, 0x24#8, 0x0D#8] := by
  rcases bytes with _ | ⟨a, _ | ⟨b, _ | ⟨c, _ | ⟨d, rest⟩⟩⟩⟩ <;> simp [signatureOk, byteAt, and_assoc]

/-- A valid descriptor is one whose signature, format version, station number and role code are as R170 asks; its fields are
those of R182. -/
theorem judgeDescriptor_eq_some {bytes : List Byte} {raw : Descriptor} :
    judgeDescriptor bytes = some raw ↔
      signatureOk bytes = true ∧ fieldAt bytes 4 = 1 ∧ (1 ≤ fieldAt bytes 5 ∧ fieldAt bytes 5 ≤ 239)
        ∧ ∃ role, readRole (byteAt bytes 6) = some role ∧ rawDescriptor bytes role = raw := by
  have hlast : fieldAt bytes 5 < 240 ↔ fieldAt bytes 5 ≤ 239 := Nat.lt_succ_iff
  simp only [judgeDescriptor, Option.ite_none_right_eq_some, Option.map_eq_some_iff, Bool.and_eq_true, beq_iff_eq,
    decide_eq_true_eq, hlast, and_assoc]

theorem judgeDescriptor_isSome (bytes : List Byte) :
    (judgeDescriptor bytes).isSome = true ↔
      bytes.take 4 = [0x6B#8, 0x47#8, 0x24#8, 0x0D#8] ∧ fieldAt bytes 4 = 1
        ∧ (1 ≤ fieldAt bytes 5 ∧ fieldAt bytes 5 ≤ 239) ∧ (fieldAt bytes 6 = 1 ∨ fieldAt bytes 6 = 2) := by
  have hrole : (∃ role, readRole (byteAt bytes 6) = some role) ↔ fieldAt bytes 6 = 1 ∨ fieldAt bytes 6 = 2 := by
    constructor
    · rintro ⟨_ | _, hr⟩
      · exact .inl (readRole_eq_some_transfer.1 hr)
      · exact .inr (readRole_eq_some_plant.1 hr)
    · rintro (h1 | h2)
      · exact ⟨.transfer, readRole_eq_some_transfer.2 h1⟩
      · exact ⟨.plant, readRole_eq_some_plant.2 h2⟩
  simp only [Option.isSome_iff_exists, judgeDescriptor_eq_some, exists_and_left, signatureOk_iff]
  rw [exists_comm]
  simp [hrole]

/-! ### Clamping (R171) -/

theorem clampSector_ok {r : SectorRange} (h : r.used = true → r.base ≤ r.limit) : SectorOk (clampSector r) := by
  refine ⟨clampNat_mem (by decide) _, clampNat_mem (by decide) _, fun hu => ?_⟩
  exact max_le_max le_rfl (min_le_min le_rfl (h hu))

theorem clampSector_of_ok {r : SectorRange} (h : SectorOk r) : clampSector r = r := by
  obtain ⟨⟨hb, hb'⟩, ⟨hl, hl'⟩, -⟩ := h
  simp [clampSector, clampNat_of_mem hb hb', clampNat_of_mem hl hl']

/-- Every tunable of a clamped descriptor lies in its range (R171). -/
theorem clampDescriptor_inRange (d : Descriptor) : ∀ t ∈ (clampDescriptor d).tunables, InRange t := by
  have hstale := clampNat_mem (show 2 ≤ 60 by decide) d.staleTime
  have hlost : 2 ≤ (clampDescriptor d).lostTime ∧ (clampDescriptor d).lostTime ≤ 600 := by
    have := clampNat_mem (show 2 ≤ 600 by decide) d.lostTime
    simp only [clampDescriptor]
    split <;> omega
  have hmax : 0 ≤ (clampDescriptor d).hMax ∧ (clampDescriptor d).hMax ≤ 10000 := by
    simp only [clampDescriptor]
    split
    · exact clampNat_mem (by decide) d.hMin
    · exact clampNat_mem (by decide) d.hMax
  simp only [Descriptor.tunables, InRange, List.forall_mem_cons, hlost, hmax]
  simp [clampDescriptor, clampNat_mem]

/-- A clamped descriptor is in range throughout (R170, R171). -/
theorem clampDescriptor_ok {d : Descriptor} (hn : 1 ≤ d.number ∧ d.number ≤ 239)
    (hs : ∀ r ∈ d.sectors, r.used = true → r.base ≤ r.limit) : DescriptorOk (clampDescriptor d) := by
  refine ⟨hn, clampDescriptor_inRange d, ?_, ?_, ?_⟩
  · intro r hr
    obtain ⟨r', hr', rfl⟩ := List.mem_map.1 hr
    exact clampSector_ok (hs r' hr')
  · simp only [clampDescriptor]
    split <;> omega
  · simp only [clampDescriptor]
    split <;> omega

/-- A descriptor in range throughout is loaded as it stands (R171). -/
theorem clampDescriptor_of_ok {d : Descriptor} (h : DescriptorOk d) : clampDescriptor d = d := by
  obtain ⟨-, htun, hsec, hlost, hmax⟩ := h
  have hsectors : d.sectors.map clampSector = d.sectors := 
    (List.map_congr_left fun r hr => clampSector_of_ok (hsec r hr)).trans (List.map_id _)
  have hclamp : ∀ t ∈ d.tunables, clampNat t.1 t.2.2 t.2.1 = t.2.1 := fun t ht =>
    clampNat_of_mem (htun t ht).1 (htun t ht).2
  simp only [Descriptor.tunables, List.forall_mem_cons] at hclamp
  simp [clampDescriptor, hclamp, hsectors, hlost, hmax.not_gt]

/-- What a valid descriptor says of itself before clamping: its number and its sector ranges (R10, R170). -/
theorem judgeDescriptor_ok {bytes : List Byte} {raw : Descriptor} (h : judgeDescriptor bytes = some raw) :
    DescriptorOk (clampDescriptor raw) := by
  obtain ⟨-, -, hnumber, role, -, rfl⟩ := judgeDescriptor_eq_some.1 h
  refine clampDescriptor_ok hnumber fun r hr => ?_
  simp only [rawDescriptor, List.mem_cons, List.not_mem_nil, or_false] at hr
  rcases hr with rfl | rfl | rfl | rfl <;> exact of_decide_eq_true

theorem ite_lt_eq_max (lo n : Nat) : (if n < lo then lo else n) = max lo n := by
  split <;> omega

/-- Settles O10. -/
theorem clampingBringsIntoRange : Obligations.ClampingBringsIntoRange := by
  intro bytes raw h
  have hok := judgeDescriptor_ok h
  obtain ⟨-, -, -, role, hrole, rfl⟩ := judgeDescriptor_eq_some.1 h
  refine ⟨⟨rfl, ?_, ?_, ?_⟩, ?_, ?_, rfl, ⟨rfl, rfl⟩, ⟨rfl, rfl, rfl, rfl, rfl⟩, ?_, rfl, ?_, rfl,
    ⟨rfl, rfl, rfl, rfl, rfl, rfl, rfl, rfl, rfl, rfl⟩, hok, clampDescriptor_of_ok⟩
  · exact ⟨fun hr => readRole_eq_some_transfer.1 (hrole.trans (congrArg some hr)),
      fun h1 => Option.some.inj (hrole.symm.trans (readRole_eq_some_transfer.2 h1))⟩
  · exact ⟨fun hr => readRole_eq_some_plant.1 (hrole.trans (congrArg some hr)),
      fun h2 => Option.some.inj (hrole.symm.trans (readRole_eq_some_plant.2 h2))⟩
  · exact decide_eq_true_iff
  · intro offset value hmem
    fin_cases hmem <;> rfl
  · intro offset value hmem
    fin_cases hmem <;> rfl
  · intro lo hi tunable hmem
    fin_cases hmem <;> rfl
  · exact ite_lt_eq_max _ _

/-! ### The drive band (R172) -/

theorem strapCut_le (code span : Nat) : strapCut code span ≤ span := by
  unfold strapCut
  split
  · exact Nat.zero_le _
  · exact Nat.div_le_self _ _

theorem driveRange_ok {d : Descriptor} (h : DescriptorOk d) :
    (driveRange d).lo ≤ (driveRange d).hi ∧ (driveRange d).hi ≤ 10000 := by
  obtain ⟨-, htun, -, -, hmax⟩ := h
  unfold driveRange
  cases d.role with
  | transfer => exact ⟨Nat.zero_le _, le_rfl⟩
  | plant => exact ⟨hmax, (htun (0, d.hMax, 10000) (by simp [Descriptor.tunables])).2⟩

/-- The hardware band lies in the range that the straps cut. -/
theorem hardwareBand_inside (r : StrapReading) {range : DriveBand} (h : range.lo ≤ range.hi) :
    range.lo ≤ (hardwareBand r range).lo ∧ (hardwareBand r range).lo ≤ (hardwareBand r range).hi
      ∧ (hardwareBand r range).hi ≤ range.hi := by
  have := strapCut_le r.code (range.hi - range.lo)
  unfold hardwareBand
  cases r.bandEnd <;> exact ⟨by dsimp only; omega, by dsimp only; omega, by dsimp only; omega⟩

theorem effectiveBand_of_plant {d : Descriptor} (h : d.role = .plant) (b : DriveBand) :
    effectiveBand d b = (b, false) := by
  simp [effectiveBand, h]

theorem effectiveBand_of_transfer {d : Descriptor} (h : d.role = .transfer) (b : DriveBand) :
    effectiveBand d b =
      if d.softLo ≤ d.softHi then
        if max b.lo d.softLo ≤ min b.hi d.softHi then (⟨max b.lo d.softLo, min b.hi d.softHi⟩, false) else (b, true)
      else (b, false) := by
  simp [effectiveBand, h]

/-- The effective band lies in the hardware band. -/
theorem effectiveBand_inside (d : Descriptor) {b : DriveBand} (h : b.lo ≤ b.hi) :
    b.lo ≤ (effectiveBand d b).1.lo ∧ (effectiveBand d b).1.lo ≤ (effectiveBand d b).1.hi
      ∧ (effectiveBand d b).1.hi ≤ b.hi := by
  cases hr : d.role with
  | plant =>
    rw [effectiveBand_of_plant hr]
    exact ⟨le_rfl, h, le_rfl⟩
  | transfer =>
    rw [effectiveBand_of_transfer hr]
    split
    · split
      next hle => exact ⟨le_max_left _ _, hle, min_le_left _ _⟩
      next => exact ⟨le_rfl, h, le_rfl⟩
    · exact ⟨le_rfl, h, le_rfl⟩

theorem clampIntoBand_of_transfer {d : Descriptor} (h : d.role = .transfer) (b : DriveBand) :
    clampIntoBand d b = { d with failPosition := clampNat b.lo b.hi d.failPosition } := by
  simp [clampIntoBand, h]

theorem clampIntoBand_of_plant {d : Descriptor} (h : d.role = .plant) (b : DriveBand) :
    clampIntoBand d b =
      { d with
        hStart := clampNat b.lo b.hi d.hStart
        hIsolated := clampNat b.lo b.hi d.hIsolated } := by
  simp [clampIntoBand, h]

/-- A descriptor in range stays so when its positions are brought into a band inside the drive range. -/
theorem clampIntoBand_ok {d : Descriptor} (h : DescriptorOk d) {b : DriveBand} (hle : b.lo ≤ b.hi) (htop : b.hi ≤ 10000) :
    DescriptorOk (clampIntoBand d b) := by
  obtain ⟨hnumber, htun, hsec, hlost, hmax⟩ := h
  have hin (v : Nat) : clampNat b.lo b.hi v ≤ 10000 := (clampNat_mem hle v).2.trans htop
  simp only [Descriptor.tunables, List.forall_mem_cons, InRange] at htun
  cases hr : d.role with
  | transfer =>
    rw [clampIntoBand_of_transfer hr]
    refine ⟨hnumber, ?_, hsec, hlost, hmax⟩
    simp only [Descriptor.tunables, List.forall_mem_cons, InRange]
    simp [htun, hin]
  | plant =>
    rw [clampIntoBand_of_plant hr]
    refine ⟨hnumber, ?_, hsec, hlost, hmax⟩
    simp only [Descriptor.tunables, List.forall_mem_cons, InRange]
    simp [htun, hin]

/-- The band that a descriptor in range and a strap reading give lies in the drive range, and the positions in it (R172). -/
theorem bandOk_loaded {d : Descriptor} (h : DescriptorOk d) (r : StrapReading) :
    BandOk (clampIntoBand d (effectiveBand d (hardwareBand r (driveRange d))).1)
      (effectiveBand d (hardwareBand r (driveRange d))).1 := by
  obtain ⟨hrange, htop⟩ := driveRange_ok h
  obtain ⟨hlo, hle, hhi⟩ := hardwareBand_inside r hrange
  obtain ⟨helo, hele, hehi⟩ := effectiveBand_inside d hle
  have hin (v : Nat) := clampNat_mem hele v
  refine ⟨hele, hehi.trans (hhi.trans htop), ?_, ?_⟩
  · intro hrole
    cases hr : d.role with
    | transfer =>
      rw [clampIntoBand_of_transfer hr]
      exact hin _
    | plant => simp [clampIntoBand_of_plant hr, hr] at hrole
  · intro hrole
    cases hr : d.role with
    | transfer => simp [clampIntoBand_of_transfer hr, hr] at hrole
    | plant =>
      have hrange : driveRange d = ⟨d.hMin, d.hMax⟩ := by simp [driveRange, hr]
      have hlow : d.hMin ≤ (effectiveBand d (hardwareBand r (driveRange d))).1.lo := by
        rw [hrange] at hlo helo ⊢
        exact hlo.trans helo
      have hhigh : (effectiveBand d (hardwareBand r (driveRange d))).1.hi ≤ d.hMax := by
        rw [hrange] at hhi hehi ⊢
        exact hehi.trans hhi
      rw [clampIntoBand_of_plant hr]
      exact ⟨hlow, hhigh, hin _, hin _⟩

/-- The fraction that each band code takes off (R172). -/
theorem strapCut_of_code {code denominator span : Nat}
    (h : (code, denominator) ∈ [(1, 64), (2, 32), (3, 16), (4, 8), (5, 4), (6, 2), (7, 1)]) :
    strapCut code span = span / denominator := by
  fin_cases h <;> simp [strapCut]

/-- Settles O11. -/
theorem driveBandInsideRange : Obligations.DriveBandInsideRange := by
  intro d r hd _
  obtain ⟨hrange, -⟩ := driveRange_ok hd
  refine ⟨fun hr => by simp [driveRange, hr], fun hr => by simp [driveRange, hr], ?_, ?_, ?_, ?_,
    hardwareBand_inside r hrange, fun hr => effectiveBand_of_plant hr _, ?_, ?_, ?_,
    ⟨fun hr => clampIntoBand_of_transfer hr _, fun hr => clampIntoBand_of_plant hr _⟩, bandOk_loaded hd r⟩
  · rintro code denominator p hcode rfl rfl
    exact ⟨fun he => by simp [hardwareBand, he, strapCut_of_code hcode],
      fun he => by simp [hardwareBand, he, strapCut_of_code hcode]⟩
  · intro h0
    cases he : r.bandEnd <;> simp [hardwareBand, he, h0, strapCut]
  · intro h7 he
    simp [hardwareBand, he, h7, strapCut]
    omega
  · intro h7 he
    simp [hardwareBand, he, h7, strapCut]
    omega
  · intro hr hlt
    rw [effectiveBand_of_transfer hr, if_neg (by omega)]
  · intro hr hle hmeet
    rw [effectiveBand_of_transfer hr, if_pos hle, if_pos hmeet]
  · intro hr hle hempty
    rw [effectiveBand_of_transfer hr, if_pos hle, if_neg (by omega)]

end Sys2Proof.Machine
end

section
/-! Start-up (spec/11): the reset pin (R168), the descriptor read (R169), UNCONFIGURED (R170) and the entry to JOINING (R173).
What latches and inputs do at that entry is `Joined`, a relation that each of its operations keeps. -/

namespace Sys2Proof.Machine

variable {s : State}

/-! ### What STARTING is (R168, R169) -/

theorem inactive_of_starting (hm : s.control.mode = .starting) : s.active = false := by
  simp [State.active, Mode.active, hm]

theorem readInProgress_iff : s.readInProgress = true ↔ s.control.mode = .starting ∧ s.control.pinAsserted = false := by
  simp [State.readInProgress]

/-- A role is known only with a loaded descriptor, so in no station outside JOINING, RUNNING and HOLD (R168, R173). -/
theorem EventOk.role_of_inactive (h : EventOk s) (hs : s.active = false) : s.isTransfer = false ∧ s.isPlant = false := by
  have hd : s.control.descriptor = none := by
    simpa [hs] using h.config.1
  simp [State.isTransfer, State.isPlant, hd]

/-- Outside JOINING, RUNNING and HOLD the blocks that act there hold their reset values. -/
theorem EventOk.rest_of_inactive (h : EventOk s) (hs : s.active = false) :
    s.valve = .atReset ∧ s.head = .atReset ∧ s.share = .atReset ∧ s.limit = .atReset ∧ s.reports = .atReset := by
  have hrole := h.role_of_inactive hs
  have hspeak : s.speaking = false := by
    by_contra hsp
    exact absurd (speaking_active (by simpa using hsp)) (by simp [hs])
  obtain ⟨-, -, hshare⟩ := h.share
  obtain ⟨-, -, -, -, -, hlimit⟩ := h.limit
  exact ⟨h.valve.2 hrole.1, h.head.2 hrole.2, hshare (.inl hspeak), hlimit (.inl hspeak), h.reports.2 hspeak⟩

/-! ### The reset pin and UNCONFIGURED -/

theorem EventOk.resetPinRelease (h : EventOk s) (pins : StrapPins) : EventOk (resetPinRelease pins s) := by
  unfold Machine.resetPinRelease
  split
  next hpin =>
    obtain ⟨hjoin, hhold, hsafe, hstart, -, -, -, hvt, hht⟩ := h.mode
    obtain ⟨hm, -⟩ := hstart hpin
    exact ⟨h.config, ⟨hjoin, hhold, hsafe, nofun, readStraps_code_le pins, by simp [hm], nofun, hvt, hht⟩,
      ⟨h.queues.1, h.queues.2, h.queues.3, h.queues.4, h.queues.5, h.queues.6⟩, h.attempt, h.table, h.limit, h.measure,
      h.share, h.valve, h.head, h.reports⟩
  next => exact h

theorem EventOk.safeRecordTimerExpiry (h : EventOk s) : EventOk (safeRecordTimerExpiry s) := by
  unfold Machine.safeRecordTimerExpiry
  split
  · exact h.sendDrive _
  · exact h

/-- The memory lane at the end of the descriptor read, and the timers of STARTING (R169). -/
theorem ModeHeld.of_readInProgress (h : ModeHeld s) (hread : s.readInProgress = true) :
    s.control.holdTimer.isRunning = false ∧ s.control.joinTimer.isRunning = false
      ∧ s.control.safeTimer.isRunning = false ∧ s.control.memoryLane = readRequest := by
  obtain ⟨hm, hpin⟩ := readInProgress_iff.1 hread
  obtain ⟨hjoin, hhold, hsafe, -, -, hlane, -⟩ := h
  exact ⟨by simpa [hm] using hhold, by simpa [hm] using hjoin, by simpa [hm] using hsafe, by simpa [hm, hpin] using hlane⟩

theorem EventOk.enterUnconfigured (h : EventOk s) (hread : s.readInProgress = true) : EventOk (enterUnconfigured s) := by
  obtain ⟨hm, hpin⟩ := readInProgress_iff.1 hread
  obtain ⟨hhold, hjoin, -, hlane⟩ := h.mode.of_readInProgress hread
  obtain ⟨-, -, -, -, hcode, -, -, hvt, hht⟩ := h.mode
  have hinact := inactive_of_starting hm
  have hquiet : s.speaking = false := by simp [State.speaking, Mode.speaking, hm]
  obtain ⟨hrx, htx, hun, hrxRest, htxRest, -⟩ := h.queues
  obtain ⟨hset, hunset⟩ := h.head
  have hdone : EventOk (s.setControl
      { s.control with
        mode := .unconfigured
        restartCause := false
        memoryLane := s.control.memoryLane ++ readEnd
        safeTimer := startTenths Config.oneSecond }) := by
    refine ⟨?_, ⟨hjoin, hhold, rfl, fun hp => ?_, hcode, ?_, nofun, hvt, hht⟩,
      ⟨hrx, htx, hun, fun _ => hrxRest hinact, fun _ => htxRest hquiet, nofun⟩, ?_, ?_, ?_, ?_, ?_, h.valve, ?_,
      ⟨h.reports.1, fun _ => h.reports.2 hquiet⟩⟩
    · obtain ⟨hd, hb, -⟩ := h.config
      exact ⟨hd.trans hinact, hb.trans hinact, nofun⟩
    · exact absurd (hp.symm.trans hpin) (by decide)
    · simp [hpin, hlane]
    · obtain ⟨ha8, hjam, hw, hh, hdraw, hin, hown, hidle, hrec, hbusy, hsil, hiso⟩ := h.attempt
      exact ⟨ha8, hjam, hw, hh, hdraw, hin, hown, hidle, hrec, fun _ => hbusy hinact,
        hsil.trans (by rw [hinact]; rfl), fun _ => hiso hinact⟩
    · obtain ⟨hlen, hasc, hok, hempty⟩ := h.table
      exact ⟨hlen, hasc, hok, fun _ => hempty hinact⟩
    · obtain ⟨hactive, hpend, hbt, hst, hshed, hrest⟩ := h.limit
      exact ⟨hactive, hpend, hbt, hst, hshed, fun _ => hrest (.inl hquiet)⟩
    · obtain ⟨hfields, hdpf, htop, hfs, -, hrest⟩ := h.measure
      exact ⟨hfields, hdpf, htop, hfs, nofun, fun _ => hrest hinact⟩
    · obtain ⟨hgrant, hreq, hrest⟩ := h.share
      exact ⟨hgrant, hreq, fun _ => hrest (.inl hquiet)⟩
    · exact ⟨fun hp => absurd (hp.symm.trans (h.role_of_inactive hinact).2) (by decide), hunset⟩
  exact hdone.sendDrive _

/-! ### Latches and inputs at the entry to JOINING (R133, R148) -/

/-- t is u but for its inputs and its latches: those of `which` are set, and each that goes from clear to set and is urgent
sets alarm-due (R143, R148). -/
structure Joined (which : Latch → Prop) (u t : State) : Prop where
  same : t = (u.setMeasure { u.measure with inputs := t.measure.inputs }).setCondition t.condition
  sequence : t.condition.alarmSequence = u.condition.alarmSequence
  latched : ∀ l, t.latched l = true ↔ u.latched l = true ∨ which l
  due : t.condition.alarmDue = true ↔ u.condition.alarmDue = true
    ∨ ∃ l, u.latched l = false ∧ t.latched l = true ∧ u.urgent l = true

section Joined

variable {u t v : State} {a b : Latch → Prop}

theorem Joined.control (h : Joined a u t) : t.control = u.control := by
  rw [h.same]
  rfl

theorem Joined.urgent (h : Joined a u t) (l : Latch) : t.urgent l = u.urgent l := by
  simp only [State.urgent, State.config, h.control]

theorem Joined.refl (u : State) : Joined (fun _ => False) u u := by
  refine ⟨rfl, rfl, fun l => by simp, ⟨.inl, ?_⟩⟩
  rintro (hdue | ⟨l, hclear, hset, -⟩)
  · exact hdue
  · simp [hclear] at hset

theorem Joined.trans (h : Joined a u t) (h' : Joined b t v) : Joined (fun l => a l ∨ b l) u v := by
  refine ⟨?_, h'.sequence.trans h.sequence, fun l => by rw [h'.latched, h.latched, or_assoc], ?_⟩
  · have hm : t.measure = { u.measure with inputs := t.measure.inputs } := by
      conv_lhs => rw [h.same]
      rfl
    conv_lhs => rw [h'.same, h.same]
    simp [State.setMeasure, State.setCondition]
  · rw [h'.due, h.due, or_assoc]
    refine or_congr_right ⟨?_, ?_⟩
    · rintro (⟨l, hclear, hset, hu⟩ | ⟨l, hclear, hset, hu⟩)
      · exact ⟨l, hclear, (h'.latched l).2 (.inl hset), hu⟩
      · refine ⟨l, ?_, hset, (h.urgent l).symm.trans hu⟩
        by_contra hl
        exact absurd ((h.latched l).2 (.inl (by simpa using hl))) (by simp [hclear])
    · rintro ⟨l, hclear, hset, hu⟩
      cases hl : t.latched l with
      | true => exact .inl ⟨l, hclear, hl, hu⟩
      | false => exact .inr ⟨l, hl, hset, (h.urgent l).trans hu⟩

theorem Joined.congr (h : Joined a u t) (hab : ∀ l, a l ↔ b l) : Joined b u t :=
  ⟨h.same, h.sequence, fun l => by rw [h.latched, hab], h.due⟩

/-- An operation taken only where a condition holds. -/
theorem Joined.ite {c : Prop} [Decidable c] (h : c → Joined a u t) : Joined (fun l => c ∧ a l) u (if c then t else u) := by
  split
  next hc => exact (h hc).congr fun l => by simp [hc]
  next hc => exact (Joined.refl u).congr fun l => by simp [hc]

/-- In JOINING a latch that goes from clear to set sets alarm-due if it is urgent, and nothing else happens (R148). -/
theorem joined_setLatch (hm : u.control.mode = .joining) (l : Latch) : Joined (· = l) u (setLatch l u) := by
  have hmark (k : Latch) : (markLatch l u).latched k = true ↔ u.latched k = true ∨ k = l := by simp
  cases hl : u.latched l with
  | true =>
    rw [setLatch_of_latched hl]
    refine ⟨rfl, rfl, fun k => ⟨.inl, ?_⟩, (Joined.refl u).due⟩
    rintro (hk | rfl)
    · exact hk
    · exact hl
  | false =>
    cases hu : u.urgent l with
    | true =>
      rw [setLatch_of_joining hl hu hm]
      exact ⟨rfl, rfl, hmark, ⟨fun _ => .inr ⟨l, hl, (hmark l).2 (.inr rfl), hu⟩, fun _ => rfl⟩⟩
    | false =>
      rw [setLatch_of_not_urgent hl hu]
      refine ⟨rfl, rfl, hmark, ⟨.inl, ?_⟩⟩
      rintro (hdue | ⟨k, hclear, hset, huk⟩)
      · exact hdue
      · rcases (hmark k).1 hset with hk | rfl
        · exact absurd hk (by simp [hclear])
        · exact absurd huk (by simp [hu])

theorem joined_setInput (i : InputName) (w : Input) : Joined (fun _ => False) u (setInput i w u) := by
  refine ⟨rfl, rfl, fun l => by simp [setInput], ⟨.inl, ?_⟩⟩
  rintro (hdue | ⟨l, hclear, hset, -⟩)
  · exact hdue
  · simp [setInput, hclear] at hset

/-- The input at the entry to JOINING: one found active starts its debounce timer, or is recognised at once with debounce 0
(R133, R134). -/
def watchedInput (d : Descriptor) (i : InputName) (v : Input) : Input :=
  if v.raw = activeLevel d i then
    if d.debounce = 0 then { v with active := true, changed := true }
    else { v with debounceTimer := .running d.debounce }
  else v

/-- The recognition of an active input at the entry to JOINING sets INPUT_CHANGE, if the change mask names the input (R134). -/
abbrev RecognisedAtEntry (d : Descriptor) (i : InputName) (raw : Level) : Prop :=
  raw = activeLevel d i ∧ d.debounce = 0 ∧ d.changeMask.getLsbD (InputName.bit i) = true

/-- An absent Qavail offers nothing, whatever the inputs say, so a new offer is the one that stands (R108). -/
theorem recomputeOffer_of_absent (hq : u.reading .qavail = none) (ho : u.head.offer = 0) (hb : u.head.offerBasis = none) :
    recomputeOffer u = u := by
  have hoffer : offerOf u.trip none u.config.reserve = (0, none) := by
    unfold offerOf
    split <;> rfl
  unfold recomputeOffer
  rw [hq, hoffer]
  split
  · show u.setHead { u.head with offer := 0, offerBasis := none } = u
    rw [← ho, ← hb]
    rfl
  · rfl

theorem PerInput.set_get_self {α : Type} (p : PerInput α) (i : InputName) : p.set i (p.get i) = p := by cases i <;> rfl

/-- What watching one input does, from the state it has after a reset (R133, R134). -/
theorem joined_watchInput (hm : u.control.mode = .joining) (hq : u.reading .qavail = none) (ho : u.head.offer = 0)
    (hb : u.head.offerBasis = none) {i : InputName} (hi : u.measure.inputs.get i = .atReset (u.measure.inputs.get i).raw) :
    Joined (fun l => RecognisedAtEntry u.config i (u.measure.inputs.get i).raw ∧ l = .inputChange) u (watchInput i u)
      ∧ (watchInput i u).measure.inputs
          = u.measure.inputs.set i (watchedInput u.config i (u.measure.inputs.get i)) := by
  generalize hv : u.measure.inputs.get i = v at hi ⊢
  have hactive : v.active = false := by rw [hi]; rfl
  have hstopped : v.debounceTimer = .stopped := by rw [hi]; rfl
  by_cases hfound : v.raw = activeLevel u.config i
  swap
  · have hwatch : watchInput i u = u := by simp [watchInput, rawActive, hv, hfound]
    have hsame : watchedInput u.config i v = u.measure.inputs.get i := by simp [watchedInput, hfound, hv]
    rw [hwatch, hsame, PerInput.set_get_self]
    exact ⟨(Joined.refl u).congr fun l => by simp [RecognisedAtEntry, hfound], rfl⟩
  have hwatch : watchInput i u = rawChanged i u := by simp [watchInput, rawActive, hv, hfound]
  rw [hwatch]
  by_cases hzero : u.config.debounce = 0
  · have hseen : rawChanged i u = recomputeOffer
        (if u.config.changeMask.getLsbD (InputName.bit i) = true
          then setLatch .inputChange (setInput i { v with active := true, changed := true } u)
          else setInput i { v with active := true, changed := true } u) := by
      simp [rawChanged, recogniseChange, rawActive, hv, hfound, hactive, hzero, hstopped]
    have hsame : recomputeOffer
        (if u.config.changeMask.getLsbD (InputName.bit i) = true
          then setLatch .inputChange (setInput i { v with active := true, changed := true } u)
          else setInput i { v with active := true, changed := true } u) = _ :=
      recomputeOffer_of_absent (by split <;> simpa using hq) (by split <;> simpa using ho)
        (by split <;> simpa using hb)
    rw [hseen, hsame]
    refine ⟨((joined_setInput i _).trans (Joined.ite fun _ => joined_setLatch (by simpa [setInput] using hm) _)).congr
      fun l => by simp [RecognisedAtEntry, hfound, hzero], ?_⟩
    split <;> simp [setInput, watchedInput, hfound, hzero]
  · have hstart : rawChanged i u = setInput i { v with debounceTimer := .running u.config.debounce } u := by
      simp [rawChanged, rawActive, hv, hfound, hactive, hzero, startTenths]
    rw [hstart]
    exact ⟨(joined_setInput i _).congr fun l => by simp [RecognisedAtEntry, hzero], by
      simp [setInput, watchedInput, hfound, hzero]⟩

/-- The inputs at the entry to JOINING, each by its own pin (R133). -/
def watchedInputs (d : Descriptor) (p : PerInput Input) : PerInput Input :=
  ⟨watchedInput d .in0 p.in0, watchedInput d .in1 p.in1, watchedInput d .in2 p.in2, watchedInput d .in3 p.in3⟩

@[simp] theorem watchedInputs_get (d : Descriptor) (p : PerInput Input) (i : InputName) :
    (watchedInputs d p).get i = watchedInput d i (p.get i) := by
  cases i <;> rfl

theorem Joined.config (h : Joined a u t) : t.config = u.config := by
  simp only [State.config, h.control]

theorem exists_inputName {p : InputName → Prop} : (∃ i, p i) ↔ ((p .in0 ∨ p .in1) ∨ p .in2) ∨ p .in3 := by
  constructor
  · rintro ⟨_ | _ | _ | _, hp⟩ <;> simp only [hp, true_or, or_true]
  · rintro (((hp | hp) | hp) | hp) <;> exact ⟨_, hp⟩

/-- What watching all four inputs does, from the state they have after a reset (R133, R134). -/
theorem joined_watchInputs (hm : u.control.mode = .joining) (hq : u.reading .qavail = none) (ho : u.head.offer = 0)
    (hb : u.head.offerBasis = none) (hi : ∀ i, u.measure.inputs.get i = .atReset (u.measure.inputs.get i).raw) :
    Joined (fun l => (∃ i, RecognisedAtEntry u.config i (u.measure.inputs.get i).raw) ∧ l = .inputChange) u (watchInputs u)
      ∧ (watchInputs u).measure.inputs = watchedInputs u.config u.measure.inputs := by
  have hnext {b : Latch → Prop} {t : State} {i : InputName} (h : Joined b u t)
      (hsame : t.measure.inputs.get i = u.measure.inputs.get i) :
      Joined (fun l => b l ∨ RecognisedAtEntry u.config i (u.measure.inputs.get i).raw ∧ l = .inputChange) u
          (watchInput i t)
        ∧ (watchInput i t).measure.inputs = t.measure.inputs.set i (watchedInput u.config i (u.measure.inputs.get i)) := by
    have hstep := joined_watchInput (u := t) (i := i) (by rw [h.control, hm]) (by rw [h.same]; exact hq)
      (by rw [h.same]; exact ho) (by rw [h.same]; exact hb) (by rw [hsame]; exact hi i)
    rw [h.config, hsame] at hstep
    exact ⟨h.trans hstep.1, hstep.2⟩
  obtain ⟨h0, he0⟩ := hnext (i := .in0) (Joined.refl u) rfl
  obtain ⟨h1, he1⟩ := hnext (i := .in1) h0 (by rw [he0]; rfl)
  obtain ⟨h2, he2⟩ := hnext (i := .in2) h1 (by rw [he1, he0]; rfl)
  obtain ⟨h3, he3⟩ := hnext (i := .in3) h2 (by rw [he2, he1, he0]; rfl)
  refine ⟨h3.congr fun l => ?_, ?_⟩
  · rw [exists_inputName, or_and_right, or_and_right, or_and_right, false_or]
  · show (watchInput .in3 (watchInput .in2 (watchInput .in1 (watchInput .in0 u)))).measure.inputs = _
    rw [he3, he2, he1, he0]
    rfl

end Joined

/-! ### The entry to JOINING (R173) -/

/-- Station Control at the entry to JOINING (R139, R169, R173). -/
def joiningControl (l : Loaded) (c : StationControl) : StationControl :=
  { c with
    mode := .joining
    joinTimer := startSeconds l.descriptor.joinTime
    restartCause := false
    descriptor := some l.descriptor
    driveBand := some l.band
    memoryLane := c.memoryLane ++ readEnd }

/-- The Valve Loop at the entry to JOINING (R84, R86). -/
def joiningValve (d : Descriptor) (v : ValveLoop) : ValveLoop :=
  if d.role = .transfer then
    { v with
      command := d.failPosition
      periodTimer := startTenths d.controlPeriod }
  else v

/-- The Head Reset Unit at the entry to JOINING (R106, R110). -/
def joiningHead (d : Descriptor) (u : HeadResetUnit) : HeadResetUnit :=
  if d.role = .plant then
    { u with
      setpoint := d.hStart
      periodTimer := startTenths d.controlPeriod }
  else u

/-- The entry to JOINING moves the silence timer at the Line Unit, the sample timer and the functions at the Measurement Unit,
and the position at the block of the role (R84, R106, R139, R173). -/
theorem enterJoining_eq (l : Loaded) (s : State) :
    enterJoining l s =
      { s with
        control := joiningControl l s.control
        line := { s.line with silenceTimer := startSeconds l.descriptor.silenceTime }
        measure := { s.measure with functions := l.functions, sampleTimer := startTenths l.descriptor.sampleTimeout }
        valve := joiningValve l.descriptor s.valve
        head := joiningHead l.descriptor s.head } := by
  unfold enterJoining joiningValve joiningHead
  dsimp only
  cases l.descriptor.role <;> rfl

@[simp] theorem enterJoining_config (l : Loaded) (s : State) : (enterJoining l s).config = l.descriptor := by
  rw [enterJoining_eq]
  rfl

theorem enterJoining_offer (l : Loaded) (s : State) :
    (enterJoining l s).head.offer = s.head.offer ∧ (enterJoining l s).head.offerBasis = s.head.offerBasis := by
  rw [enterJoining_eq]
  unfold joiningHead
  dsimp only
  split <;> exact ⟨rfl, rfl⟩

/-- The latches that the end of STARTING with a valid descriptor sets (R134, R171, R172, R173). -/
def SetAtEntry (l : Loaded) (s : State) (k : Latch) : Prop :=
  (l.clamped = true ∧ k = .descriptorClamped) ∨ (s.control.restartCause = true ∧ k = .restarted)
    ∨ (∃ i, RecognisedAtEntry l.descriptor i (s.measure.inputs.get i).raw) ∧ k = .inputChange

/-- The end of STARTING with a valid descriptor, past the entry to JOINING (R133, R148, R173). -/
theorem joined_leaveStarting (h : EventOk s) (hs : s.active = false) (l : Loaded) :
    Joined (SetAtEntry l s) (enterJoining l s) (leaveStarting l s)
      ∧ (leaveStarting l s).measure.inputs = watchedInputs l.descriptor s.measure.inputs := by
  have hmeasure := h.measure_of_inactive hs
  obtain ⟨-, hhead, -⟩ := h.rest_of_inactive hs
  have hm : (enterJoining l s).control.mode = .joining := by
    rw [enterJoining_eq]
    rfl
  have hinputs : (enterJoining l s).measure.inputs = s.measure.inputs := by rw [enterJoining_eq]
  have hq : (enterJoining l s).reading .qavail = none := by
    rw [enterJoining_eq, State.reading, hmeasure]
    rfl
  obtain ⟨ho, hb⟩ := enterJoining_offer l s
  rw [hhead] at ho hb
  have hat (i : InputName) : s.measure.inputs.get i = .atReset (s.measure.inputs.get i).raw := by
    rw [hmeasure]
    cases i <;> rfl
  have hclamped : Joined _ (enterJoining l s) (if l.clamped = true then setLatch .descriptorClamped (enterJoining l s)
      else enterJoining l s) := Joined.ite fun _ => joined_setLatch hm _
  generalize hw : (if l.clamped = true then setLatch .descriptorClamped (enterJoining l s) else enterJoining l s) = w
    at hclamped
  have hlatches := hclamped.trans (Joined.ite (c := s.control.restartCause = true) fun _ =>
    joined_setLatch (by rw [hclamped.control, hm]) .restarted)
  generalize hv : (if s.control.restartCause = true then setLatch .restarted w else w) = v at hlatches
  have hleave : leaveStarting l s = watchInputs v := by
    subst hw hv
    rfl
  have hvin : v.measure.inputs = s.measure.inputs := by
    rw [← hinputs, ← hv, ← hw]
    split <;> split <;> simp
  obtain ⟨hwatch, hin⟩ := joined_watchInputs (by rw [hlatches.control, hm]) (by rw [hlatches.same]; exact hq)
    (by rw [hlatches.same]; exact ho) (by rw [hlatches.same]; exact hb) (by rw [hvin]; exact hat)
  rw [hlatches.config, enterJoining_config, hvin] at hwatch hin
  rw [hleave]
  exact ⟨(hlatches.trans hwatch).congr fun k => or_assoc, hin⟩

/-- The input at the entry to JOINING is debounced (R133). -/
theorem watchedInput_ok (d : Descriptor) (i : InputName) {v : Input} (h : v = .atReset v.raw) :
    InputOk d i (watchedInput d i v) := by
  have hactive : v.active = false := by rw [h]; rfl
  have hstopped : v.debounceTimer.isRunning = false := by rw [h]; rfl
  unfold InputOk watchedInput
  split
  next hfound =>
    split
    · simp [rawActive, hfound, hstopped]
    · simp [rawActive, hfound, hactive, Timer.isRunning]
  next hquiet => simp [rawActive, hquiet, hactive, hstopped]

/-- The Measurement Unit at the entry to JOINING (R133, R135). -/
theorem EventOk.measure_joining (h : EventOk s) (hs : s.active = false) {l : Loaded} {t : State}
    (hconfig : t.config = l.descriptor) (hact : t.active = true)
    (hf : ∀ i, functionFits l.descriptor.role (l.functions.get i) = true)
    (hm : t.measure = { s.measure with
      functions := l.functions
      sampleTimer := startTenths l.descriptor.sampleTimeout
      inputs := watchedInputs l.descriptor s.measure.inputs }) : MeasureOk t := by
  have hrest := h.measure_of_inactive hs
  obtain ⟨hfields, hdpf, htop, -, -, -⟩ := h.measure
  unfold MeasureOk
  rw [hm, hconfig]
  refine ⟨hfields, hdpf, htop, fun n _ => ?_, fun _ i => ⟨?_, hf i⟩, fun ha => absurd (hact.symm.trans ha) (by decide)⟩
  · rw [hrest]
    cases n <;> rfl
  · rw [watchedInputs_get]
    refine watchedInput_ok _ _ ?_
    rw [hrest]
    cases i <;> rfl

/-- The Valve Loop of a transfer station at the entry to JOINING (R84). -/
theorem valveActive_joining {t : State} (hd : DescriptorOk t.config) (hb : BandOk t.config t.band)
    (hr : t.config.role = .transfer) (hv : t.valve = joiningValve t.config .atReset) : ValveActive t := by
  have hfloor := hd.inRange (lo := 100) (v := t.config.lFloor) (hi := 1000) (by simp [Descriptor.tunables])
  have hcount := hd.inRange (lo := 1) (v := t.config.starveCount) (hi := 30) (by simp [Descriptor.tunables])
  obtain ⟨-, -, hfail, -⟩ := hb
  unfold ValveActive
  rw [hv, joiningValve, if_pos hr]
  refine ⟨⟨hfloor.2, le_rfl⟩, ⟨le_rfl, le_rfl, Nat.zero_le _⟩, hfail hr, Nat.zero_le _, ?_, nofun, nofun⟩
  exact (decide_eq_false (by change 0 ≠ _; omega)).symm

/-- The Head Reset Unit of a plant station at the entry to JOINING (R106). -/
theorem headActive_joining {t : State} (hb : BandOk t.config t.band) (hr : t.config.role = .plant)
    (hv : t.head = joiningHead t.config .atReset) : HeadActive t := by
  obtain ⟨-, -, -, hplant⟩ := hb
  obtain ⟨-, -, hstart, -⟩ := hplant hr
  unfold HeadActive
  rw [hv, joiningHead, if_pos hr]
  exact ⟨hstart, rfl, nofun, nofun, ⟨show (-500 : Int) ≤ 0 by decide, show (0 : Int) ≤ 500 by decide⟩, Nat.zero_le _, le_rfl, Nat.zero_le _, fun _ => rfl⟩

/-- The end of STARTING with a valid descriptor keeps the invariant (R173). -/
theorem EventOk.leaveStarting (h : EventOk s) (hread : s.readInProgress = true) {l : Loaded} (hd : DescriptorOk l.descriptor)
    (hb : BandOk l.descriptor l.band) (hf : ∀ i, functionFits l.descriptor.role (l.functions.get i) = true) :
    EventOk (leaveStarting l s) := by
  obtain ⟨hm, hpin⟩ := readInProgress_iff.1 hread
  have hinact := inactive_of_starting hm
  have hquiet : s.speaking = false := by simp [State.speaking, Mode.speaking, hm]
  obtain ⟨hhold, -, hsafe, hlane⟩ := h.mode.of_readInProgress hread
  obtain ⟨hvalve, hhead, hshare, hlimit, hreports⟩ := h.rest_of_inactive hinact
  obtain ⟨hj, hin⟩ := joined_leaveStarting h hinact l
  rw [hj.same, hin, enterJoining_eq]
  refine EventOk.setCondition (s := State.setMeasure _ _) ?_ fun _ hs => nomatch hs
  refine ⟨⟨rfl, rfl, fun _ => ⟨hd, hb⟩⟩, ?_, ?_, ?_, ?_, ?_, h.measure_joining hinact rfl rfl hf rfl, ?_, ?_, ?_, ?_⟩
  · obtain ⟨-, -, -, -, hcode, -⟩ := h.mode
    refine ⟨rfl, hhold, hsafe, fun hp => absurd (hp.symm.trans hpin) (by decide), hcode, ?_, nofun, ?_, ?_⟩
    · simp [joiningControl, hpin, hlane]
    · show (joiningValve l.descriptor s.valve).periodTimer.isRunning = decide (l.descriptor.role = .transfer)
      rw [hvalve]
      unfold joiningValve
      split <;> simp_all [startTenths, Timer.isRunning, ValveLoop.atReset]
    · show (joiningHead l.descriptor s.head).periodTimer.isRunning = decide (l.descriptor.role = .plant)
      rw [hhead]
      unfold joiningHead
      split <;> simp_all [startTenths, Timer.isRunning, HeadResetUnit.atReset]
  · obtain ⟨hrx, htx, hun, -, htxRest, -⟩ := h.queues
    exact ⟨hrx, htx, hun, nofun, fun _ => htxRest hquiet, fun _ hs => nomatch hs⟩
  · obtain ⟨ha8, hjam, hw, hh, hdraw, hown, hsend, hidle, hrec, -, -, hiso⟩ := h.attempt
    refine ⟨ha8, hjam, hw, hh, hdraw, hown, hsend, hidle, hrec, nofun, ?_, nofun⟩
    show true = (true && !s.line.isolated)
    rw [hiso hinact]
    rfl
  · obtain ⟨hlen, hasc, -, hempty⟩ := h.table
    exact ⟨hlen, hasc, by simp [State.setMeasure, hempty hinact], nofun⟩
  · obtain ⟨hactive, hpend, hbt, hst, -, -⟩ := h.limit
    refine ⟨hactive, hpend, hbt, hst, ?_, fun _ => hlimit⟩
    show ShedOk _ s.limit.shed
    rw [hlimit]
    trivial
  · obtain ⟨hgrant, hreq, -⟩ := h.share
    exact ⟨hgrant, hreq, fun _ => hshare⟩
  · refine ⟨fun ht => valveActive_joining hd hb (of_decide_eq_true ht) ?_, fun ht => ?_⟩
    · rw [← hvalve]
      rfl
    · show joiningValve l.descriptor s.valve = _
      rw [joiningValve, if_neg (of_decide_eq_false ht), hvalve]
  · refine ⟨fun hp => headActive_joining hb (of_decide_eq_true hp) ?_, fun hp => ?_⟩
    · rw [← hhead]
      rfl
    · show joiningHead l.descriptor s.head = _
      rw [joiningHead, if_neg (of_decide_eq_false hp), hhead]
  · exact ⟨h.reports.1, fun _ => hreports⟩

theorem functionInForce_fits (r : Role) (code : Byte) : functionFits r (functionInForce r code) = true := by
  unfold functionInForce
  split
  next f hf =>
    split
    next hfit => exact hfit
    next => rfl
  next => rfl

/-- What a valid descriptor and a strap reading load is in range (R171, R172, R135). -/
theorem loadDescriptor_ok {bytes : List Byte} {raw : Descriptor} (h : judgeDescriptor bytes = some raw) (r : StrapReading) :
    DescriptorOk (loadDescriptor raw r).descriptor ∧ BandOk (loadDescriptor raw r).descriptor (loadDescriptor raw r).band
      ∧ ∀ i, functionFits (loadDescriptor raw r).descriptor.role ((loadDescriptor raw r).functions.get i) = true := by
  have hd := judgeDescriptor_ok h
  have hb := bandOk_loaded hd r
  obtain ⟨-, htop⟩ := driveRange_ok hd
  refine ⟨clampIntoBand_ok hd hb.1 hb.2.1, hb, fun i => ?_⟩
  have hrole (d : Descriptor) (b : DriveBand) : (clampIntoBand d b).role = d.role := by
    unfold clampIntoBand
    split <;> rfl
  simp only [loadDescriptor, hrole, PerInput.get_mapEach]
  exact functionInForce_fits _ _

theorem EventOk.descriptorReadComplete (h : EventOk s) (bytes : List Byte) : EventOk (descriptorReadComplete bytes s) := by
  unfold Machine.descriptorReadComplete
  split
  next hread =>
    split
    next raw hraw =>
      obtain ⟨hd, hb, hf⟩ := loadDescriptor_ok hraw s.control.strapReading
      exact h.leaveStarting hread hd hb hf
    next => exact h.enterUnconfigured hread
  next => exact h

end Sys2Proof.Machine
end

section
/-! Every step keeps the invariant: each event keeps it while it runs, and its end restores it. -/

namespace Sys2Proof.Machine

/-- The counters stay in their bounds through every event (R3). -/
theorem CountersKept.countersOk {s t : State} (h : CountersKept s t) (hs : CountersOk s) : CountersOk t := by
  have hall : ∀ k, t.counters.getD k 0 ≤ 65535 := fun k => by
    rcases h with hgrow | ⟨-, hreset⟩
    · exact (hgrow k (hs.getD_le k)).2
    · exact hreset ▸ powerUpCountersOk.getD_le k
  exact ⟨hall 0, hall 1, hall 2, hall 3, hall 4, hall 5, hall 6, hall 7, hall 8, hall 9, hall 10, hall 11⟩

/-- What an event does, up to its end (R158, R167). -/
def eventOf : Instr → State → State
  | .resetPinAssert => resetPinAssert
  | .resetPinRelease pins => resetPinRelease pins
  | .descriptorReadComplete bytes => descriptorReadComplete bytes
  | .safeRecordTimerExpiry => safeRecordTimerExpiry
  | .joinTimerExpiry order => joinTimerExpiry order
  | .holdTimerExpiry => holdTimerExpiry
  | .valveLoopControlPeriodExpiry order => valvePeriodExpiry order
  | .headControlPeriodExpiry => headPeriodExpiry
  | .shareComputation => shareComputation
  | .ageTimerExpiry number => ageTimerExpiry number
  | .takeStationReport => takeStationReport
  | .takeAlarmFrame => takeAlarmFrame
  | .limitBlock => takeCommand .limitBlock (admitCommand .limitBlock limitBlockEffect)
  | .limitCancel => takeCommand .limitCancel (admitCommand .limitCancel limitCancelEffect)
  | .shed order => takeCommand .shed (admitShed order)
  | .clearConditions => takeCommand .clearConditions admitClear
  | .hold => takeCommand .hold (admitCommand .hold fun f => enterHold (holdDuration f))
  | .release => takeCommand .release (admitCommand .release fun _ => releaseHold)
  | .forget => takeCommand .forget (admitCommand .forget fun f => forgetEntry (namedNumber f))
  | .restart => takeCommand .restart (admitCommand .restart noEffect)
  | .readView => takeCommand .readView (admitCommand .readView noEffect)
  | .readCounters => takeCommand .readCounters (admitCommand .readCounters noEffect)
  | .blockTimerExpiry => blockTimerExpiry
  | .shedTimerExpiry => shedTimerExpiry
  | .reportIntervalExpiry => reportIntervalExpiry
  | .spacingTimerExpiry => spacingTimerExpiry
  | .sampleRecord characters => sampleRecord characters
  | .sampleTimerExpiry => sampleTimerExpiry
  | .fieldHoldTimerExpiry field => fieldHoldTimerExpiry field
  | .rawLevelChange input level => rawLevelChange input level
  | .debounceTimerExpiry input => debounceTimerExpiry input
  | .silenceTimerExpiry => silenceTimerExpiry
  | .frameReceived group => frameReceived group
  | .frameDiscarded group => frameDiscarded group
  | .breakDetected fromOwnJam => breakDetected fromOwnJam
  | .lineIdle => lineIdle
  | .startBitHeard => startBitHeard
  | .attemptStart => attemptStart
  | .collision => collision
  | .jamEnd choice order => jamEnd choice order
  | .entrySent choice order => entrySent choice order
  | .groupComplete group => groupComplete group
  | .markerReceived character => markerReceived character
  | .sampleRecordBroken => id

/-- An event runs to its end; a broken sample record changes nothing at all (R124). -/
theorem exec_cases (c : Instr) (s : State) :
    exec c s = .next (settle (eventOf c s)) ∨ exec c s = .next s ∧ eventOf c s = s := by
  cases c with
  | sampleRecordBroken => exact .inr ⟨rfl, rfl⟩
  | _ => exact .inl rfl

/-- In a safe station every event runs to its end. -/
theorem StationOk.exec_event {s : State} (hs : StationOk s) (c : Instr) : exec c s = .next (settle (eventOf c s)) := by
  rcases exec_cases c s with h | ⟨h, he⟩
  · exact h
  · rw [he, settle_of_settled hs.settled]
    exact h

@[simp] theorem limitBlockEffect_speaking (f : Frame) (s : State) : (limitBlockEffect f s).speaking = s.speaking := by
  unfold limitBlockEffect
  split <;> rfl

theorem releaseHold_speaking {s : State} (h : s.speaking = true) : (releaseHold s).speaking = true := by
  unfold releaseHold
  split
  · rfl
  · exact h

@[simp] theorem forgetEntry_speaking (number : Nat) (s : State) : (forgetEntry number s).speaking = s.speaking := by
  unfold forgetEntry
  split
  next e _ => cases e.counted <;> simp [noticeIf, setEntries]
  next => rfl

/-- Every event keeps the invariant while it runs. -/
theorem StationOk.event {s : State} (hs : StationOk s) (c : Instr) : EventOk (eventOf c s) := by
  have h := hs.eventOk
  cases c with
  | resetPinAssert => exact (resetBlocks_stationOk s).eventOk
  | sampleRecordBroken => exact h
  | resetPinRelease pins => exact (h.resetPinRelease pins)
  | descriptorReadComplete bytes => exact (h.descriptorReadComplete bytes)
  | safeRecordTimerExpiry => exact h.safeRecordTimerExpiry
  | joinTimerExpiry order => exact (h.joinTimerExpiry order)
  | holdTimerExpiry => exact h.holdTimerExpiry
  | valveLoopControlPeriodExpiry order => exact (h.valvePeriodExpiry order)
  | headControlPeriodExpiry => exact h.headPeriodExpiry
  | shareComputation => exact h.shareComputation
  | ageTimerExpiry number => exact (h.ageTimerExpiry number)
  | takeStationReport => exact h.takeStationReport
  | takeAlarmFrame => exact h.takeAlarmFrame
  | limitBlock =>
    refine h.takeCommand fun f u hu hsp hadm => ?_
    exact EventOk.admitCommand (hu.limitBlockEffect hsp (not_isPlant_of_admission hadm rfl) f) (by simpa using hsp)
  | limitCancel =>
    refine h.takeCommand fun f u hu hsp _ => ?_
    exact EventOk.admitCommand (effect := limitCancelEffect) hu.cancelBlocks hsp
  | shed order =>
    refine h.takeCommand fun f u hu hsp hadm => ?_
    exact hu.admitShed hsp (not_isPlant_of_admission hadm rfl) order f
  | clearConditions => exact (h.takeCommand fun f u hu hsp _ => hu.admitClear hsp f)
  | hold =>
    refine h.takeCommand fun f u hu hsp _ => ?_
    exact EventOk.admitCommand (hu.enterHold hsp (holdDuration f)) rfl
  | release =>
    refine h.takeCommand fun f u hu hsp _ => ?_
    exact EventOk.admitCommand (effect := fun _ => releaseHold) (hu.releaseHold hsp) (releaseHold_speaking hsp)
  | forget =>
    refine h.takeCommand fun f u hu hsp _ => ?_
    exact EventOk.admitCommand (hu.forgetEntry (speaking_active hsp) (namedNumber f)) (by simpa using hsp)
  | restart => exact (h.takeCommand_noEffect .restart)
  | readView => exact (h.takeCommand_noEffect .readView)
  | readCounters => exact (h.takeCommand_noEffect .readCounters)
  | blockTimerExpiry => exact h.blockTimerExpiry
  | shedTimerExpiry => exact h.shedTimerExpiry
  | reportIntervalExpiry => exact h.reportIntervalExpiry
  | spacingTimerExpiry => exact h.spacingTimerExpiry
  | sampleRecord characters => exact (h.sampleRecord characters)
  | sampleTimerExpiry => exact h.sampleTimerExpiry
  | fieldHoldTimerExpiry field => exact (h.fieldHoldTimerExpiry field)
  | rawLevelChange input level => exact (h.rawLevelChange input level)
  | debounceTimerExpiry input => exact (h.debounceTimerExpiry input)
  | silenceTimerExpiry => exact h.silenceTimerExpiry
  | frameReceived group => exact (h.frameReceived group)
  | frameDiscarded group => exact (h.frameDiscarded group)
  | breakDetected fromOwnJam => exact (h.breakDetected fromOwnJam)
  | lineIdle => exact h.lineIdle
  | startBitHeard => exact h.startBitHeard
  | attemptStart => exact h.attemptStart
  | collision => exact h.collision
  | jamEnd choice order => exact (h.jamEnd choice order)
  | entrySent choice order => exact (h.entrySent choice order)
  | groupComplete group => exact (h.groupComplete group)
  | markerReceived character => exact (h.markerReceived character)

/-- Every event leaves a safe station. -/
theorem StationOk.exec {c : Instr} {s t : State} (hs : StationOk s) (ht : exec c s = .next t) : StationOk t := by
  have hcounters := (exec_countersKept ht).countersOk hs.countersOk
  obtain rfl : settle (eventOf c s) = t := Host.Outcome.next.inj ((hs.exec_event c).symm.trans ht)
  exact (hs.event c).stationOk_settle hcounters

/-- Settles O4: a step runs one event, or the station idles. -/
theorem stepsKeepStationSafe : Obligations.StepsKeepStationSafe := by
  intro s t hs ht
  unfold step at ht
  split at ht
  next =>
    cases ht
    exact hs
  next c rest _ =>
    have hrest : StationOk { s with pending := rest } := hs
    exact hrest.exec ht

end Sys2Proof.Machine
end

section
/-! What an event carries over: the queue of commands, Station Control, the input functions, and every latch that is set
(`Carried`). The moves of the mode, the pins and CLEAR_CONDITIONS are taken by themselves. -/

namespace Sys2Proof.Machine

/-- The queue of commands, Station Control, the input functions and the raw levels stand in t as in s, and no latch set in s is clear in t. -/
structure Carried (s t : State) : Prop where
  pending : t.pending = s.pending
  control : t.control = s.control
  functions : t.measure.functions = s.measure.functions
  raws : t.measure.inputs.mapEach (fun v => v.raw) = s.measure.inputs.mapEach (fun v => v.raw)
  latched : ∀ l, s.latched l = true → t.latched l = true

/-- The values that `Carried` is about. -/
def State.carriedValues (s : State) :
    List Instr × StationControl × PerInput InputFunction × PerInput Level × BitVec 14 :=
  (s.pending, s.control, s.measure.functions, s.measure.inputs.mapEach (fun v => v.raw), s.condition.latches)

theorem Carried.of_eq {s t : State} (h : t.carriedValues = s.carriedValues) : Carried s t := by
  simp only [State.carriedValues, Prod.mk.injEq] at h
  obtain ⟨hpending, hcontrol, hfunctions, hraws, hlatches⟩ := h
  exact ⟨hpending, hcontrol, hfunctions, hraws, fun l hl => by simpa [State.latched, hlatches] using hl⟩

theorem Carried.refl (s : State) : Carried s s := .of_eq rfl

/-- Transitivity, the later operation first, as a state that several operations make is written. -/
theorem Carried.after {s t u : State} (h' : Carried t u) (h : Carried s t) : Carried s u :=
  ⟨h'.pending.trans h.pending, h'.control.trans h.control, h'.functions.trans h.functions,
    h'.raws.trans h.raws, fun l hl => h'.latched l (h.latched l hl)⟩

/-- An operation after which the values stand as they stood. -/
theorem Carried.then_eq {s t u : State} (h : Carried s t) (hu : u.carriedValues = t.carriedValues) : Carried s u :=
  (Carried.of_eq hu).after h

theorem Carried.trans_eq {s t u : State} (h : Carried s t) (hu : u = t) : Carried s u := hu ▸ h

/-! ### Shared operations -/

section Shared

variable (s : State)

theorem markLatch_carried (l : Latch) : Carried s (markLatch l s) :=
  ⟨rfl, rfl, rfl, rfl, fun k hk => by simp [hk]⟩

theorem setLatch_carried (l : Latch) : Carried s (setLatch l s) :=
  ⟨by simp, by simp, by simp, by simp, fun k => (setLatch_latched l k s).1⟩

theorem offerAlarm_carried : Carried s (offerAlarm s) :=
  ⟨by simp, by simp, by simp, by simp, fun k => (offerAlarm_latched k s).1⟩

theorem arbitrate_carried : Carried s (arbitrate s) := .of_eq (by simp [State.carriedValues])

theorem queueReport_carried : Carried s (queueReport s) := .of_eq (by simp [State.carriedValues])

theorem countReplyLost_carried : Carried s (countReplyLost s) := .of_eq rfl

theorem offerReply_carried (r : Reply) : Carried s (offerReply r s) := by
  unfold offerReply
  split
  · exact .of_eq rfl
  · split
    · exact .of_eq rfl
    · exact ((setLatch_carried _ _).after (countReplyLost_carried s)).then_eq rfl

theorem replyTo_carried (f : Frame) (restart : Bool) (body : List Group) : Carried s (replyTo f restart body s) := by
  unfold replyTo
  split
  · exact .refl s
  · exact offerReply_carried s _

theorem offerDueAlarm_carried : Carried s (offerDueAlarm s) := by
  unfold offerDueAlarm
  split
  · exact (offerAlarm_carried _).after (.of_eq rfl)
  · exact .refl s

/-- A new debounced state of an input leaves its raw level (R133). -/
theorem setInput_carried {i : InputName} {v : Input} (hv : v.raw = (s.measure.inputs.get i).raw) :
    Carried s (setInput i v s) := by
  refine ⟨rfl, rfl, rfl, PerInput.ext_get fun j => ?_, fun _ hl => hl⟩
  by_cases hj : j = i
  · subst hj
    simp [setInput, hv]
  · simp [setInput, PerInput.get_set_of_ne _ _ hj]

theorem recogniseChange_carried (i : InputName) : Carried s (recogniseChange i s) := by
  have hoffer (t : State) : Carried t (recomputeOffer t) := .of_eq (by simp [State.carriedValues])
  unfold recogniseChange
  dsimp only
  split
  · exact (hoffer _).after ((setLatch_carried _ _).after (setInput_carried s rfl))
  · exact (hoffer _).after (setInput_carried s rfl)

theorem rawChanged_carried (i : InputName) : Carried s (rawChanged i s) := by
  unfold rawChanged
  dsimp only
  split
  · exact setInput_carried s rfl
  · split
    · exact recogniseChange_carried s i
    · exact setInput_carried s rfl

theorem noticeIf_carried (b : Bool) : Carried s (noticeIf b s) := by
  cases b
  · exact .refl s
  · exact .of_eq (by simp [noticeIf, State.carriedValues])

theorem changeTrigger_carried : Carried s (changeTrigger s) := by
  unfold changeTrigger
  split
  · exact (queueReport_carried _).after (.of_eq rfl)
  · exact .refl s

theorem answerPublication_carried : Carried s (answerPublication s) := by
  unfold answerPublication
  split <;> exact .of_eq rfl

theorem shareTrigger_carried : Carried s (shareTrigger s) := .of_eq (by simp [State.carriedValues])

end Shared

/-! ### The events that leave mode, pins and mask alone, up to their end -/

section Events

variable (s : State)

theorem watchInput_carried (i : InputName) : Carried s (watchInput i s) := by
  unfold watchInput
  split
  · exact rawChanged_carried s i
  · exact .refl s

theorem safeRecordTimerExpiry_carried : Carried s (safeRecordTimerExpiry s) := by
  unfold safeRecordTimerExpiry
  split <;> exact .of_eq rfl

theorem valvePeriodExpiry_carried (order : GrantOrder) : Carried s (valvePeriodExpiry order s) := by
  have hpublish (t : State) : Carried t (publish order t) := by
    cases order with
    | computationFirst => exact answerPublication_carried t
    | readThenComputation => exact .refl t
    | readFirst => exact shareTrigger_carried t
  have hcompute (t : State) : Carried t (computeBeforeEnd order t) := by
    cases order with
    | computationFirst => exact .refl t
    | readThenComputation => exact answerPublication_carried t
    | readFirst => exact .refl t
  have hstages : Carried s (stagesOneToThree s) := .of_eq rfl
  unfold valvePeriodExpiry
  split
  · exact (changeTrigger_carried _).after ((hcompute _).after (((hpublish _).after hstages).then_eq rfl))
  · exact .refl s

theorem headPeriodExpiry_carried : Carried s (headPeriodExpiry s) := by
  have hchoice : Carried s (chooseCritical s) := by
    unfold chooseCritical
    split <;> exact .of_eq rfl
  unfold headPeriodExpiry
  split
  · exact (changeTrigger_carried _).after (hchoice.then_eq rfl)
  · exact .refl s

theorem shareComputation_carried : Carried s (shareComputation s) := by
  unfold shareComputation
  split <;> exact .of_eq rfl

theorem ageTimerExpiry_carried (number : Nat) : Carried s (ageTimerExpiry number s) := by
  unfold ageTimerExpiry
  split
  · split
    · exact (noticeIf_carried _ _).after (.of_eq rfl)
    · exact .refl s
  · exact .refl s

theorem placeReport_carried (number : Nat) (f : Frame) (b : ReportBody) : Carried s (placeReport number f b s) := by
  have haccept (e : PeerEntry) (count : Nat) : Carried s (acceptInto e count f b s) :=
    (noticeIf_carried _ _).after (.of_eq rfl)
  have hcreate (es : List PeerEntry) : Carried s (createIn es number f b s) := (noticeIf_carried _ _).after (.of_eq rfl)
  unfold placeReport
  split
  · split
    · exact haccept _ _
    · split
      · exact haccept _ _
      · dsimp only
        split
        · exact .of_eq rfl
        · split
          · exact haccept _ _
          · exact .of_eq rfl
  · split
    · exact hcreate _
    · split
      · exact hcreate _
      · exact (setLatch_carried _ _).after (.of_eq rfl)

/-- Taking the frame at the front leaves all of it as it stands (R156). -/
theorem carried_of_takeFront {p : Frame → Bool} {t : State} {f : Frame} (h : takeFront p s = some (f, t)) : Carried s t := by
  obtain ⟨rest, -, -, -, rfl⟩ := takeFront_eq_some h
  exact .of_eq rfl

theorem takeStationReport_carried : Carried s (takeStationReport s) := by
  have htake (f : Frame) (t : State) : Carried t (takeReport f t) := by
    unfold takeReport
    dsimp only
    split
    · exact setLatch_carried t _
    · split
      · exact .refl t
      · split
        · exact placeReport_carried t _ f _
        · exact .refl t
  unfold takeStationReport
  split
  next hf => exact (htake _ _).after (carried_of_takeFront s hf)
  next => exact .refl s

theorem takeAlarmFrame_carried : Carried s (takeAlarmFrame s) := by
  have htake (f : Frame) (t : State) : Carried t (takeAlarm f t) := by
    unfold takeAlarm
    dsimp only
    split
    · exact setLatch_carried t _
    · split <;> exact .of_eq rfl
  unfold takeAlarmFrame
  split
  next hf => exact (htake _ _).after (carried_of_takeFront s hf)
  next => exact .refl s

theorem takeShed_carried (threshold duration : Nat) : Carried s (takeShed threshold duration s) := by
  unfold takeShed
  split
  · exact .of_eq rfl
  · split
    · exact (setLatch_carried _ _).after (.of_eq rfl)
    · exact .of_eq rfl

/-- An admitted command adds its counter and its reply to its effect (R164). -/
theorem admitCommand_carried {kind : Kind} {effect : Frame → State → State} (f : Frame) (h : Carried s (effect f s)) :
    Carried s (admitCommand kind effect f s) :=
  (replyTo_carried _ f _ _).after (h.then_eq rfl)

theorem admitShed_carried (order : OfferOrder) (f : Frame) : Carried s (admitShed order f s) := by
  cases order
  · exact (replyTo_carried _ f _ _).after
      ((arbitrate_carried _).after ((takeShed_carried s _ _).then_eq rfl))
  · exact (takeShed_carried _ _ _).after ((arbitrate_carried _).after ((replyTo_carried _ f _ _).after (.of_eq rfl)))

theorem limitBlockEffect_carried (f : Frame) : Carried s (limitBlockEffect f s) := by
  unfold limitBlockEffect
  split <;> exact .of_eq rfl

theorem forgetEntry_carried (number : Nat) : Carried s (forgetEntry number s) := by
  unfold forgetEntry
  split
  · exact (noticeIf_carried _ _).after (.of_eq rfl)
  · exact .refl s

end Events

/-! ### Taking a command (R156, R162 to R165) -/

section Commands

variable {s : State} {kind : Kind} {admitted : Frame → State → State} {f : Frame} {rest : List Frame}

theorem takeFront_of_atFront (hf : AtFront kind f rest s) (hact : s.active = true) :
    takeFront (fun f => f.kind == kind.code) s = some (f, s.withoutFront rest) := by
  obtain ⟨hq, hk⟩ := hf
  simp [takeFront, hq, hk, hact, State.withoutFront]

theorem takeCommand_of_atFront (hf : AtFront kind f rest s) (hact : s.active = true) :
    takeCommand kind admitted s = handleCommand kind admitted f (s.withoutFront rest) := by
  simp [takeCommand, takeFront_of_atFront hf hact]

/-- Without a frame of its kind at the front, or in STARTING and UNCONFIGURED, a command event does nothing (R156). -/
theorem takeCommand_of_no_frame (h : ∀ f rest, AtFront kind f rest s → s.active = false) :
    takeCommand kind admitted s = s := by
  unfold takeCommand
  split
  next f t hf =>
    obtain ⟨rest, hq, hact, hk, -⟩ := takeFront_eq_some hf
    exact absurd (hact.symm.trans (h f rest ⟨hq, by simpa using hk⟩)) (by decide)
  next => rfl

theorem discardedBroadcast_iff (kind : Kind) :
    discardedBroadcast kind = true ↔ kind ∈ [.readView, .readCounters, .forget, .restart] := by
  cases kind <;> simp [discardedBroadcast]

theorem handleCommand_of_joining (hm : s.control.mode = .joining) : handleCommand kind admitted f s = s := by
  simp [handleCommand, hm]

theorem handleCommand_of_own_number (hm : s.control.mode ≠ .joining) (hn : f.source.toNat = s.config.number) :
    handleCommand kind admitted f s = setLatch .numberClash s := by
  simp [handleCommand, hm, hn]

theorem handleCommand_of_broadcast (hm : s.control.mode ≠ .joining) (hn : f.source.toNat ≠ s.config.number)
    (hb : f.destination = 255#8 ∧ kind ∈ [.readView, .readCounters, .forget, .restart]) :
    handleCommand kind admitted f s = s := by
  obtain ⟨hd, hk⟩ := hb
  have hdisc := (discardedBroadcast_iff kind).2 hk
  simp [handleCommand, hm, hn, hd, hdisc]

theorem ne_joining_of_speaking (hs : s.speaking = true) : s.control.mode ≠ .joining := by
  intro hm
  simp [State.speaking, Mode.speaking, hm] at hs

/-- A command that goes on to the checks is admitted or refused by them (R163). -/
theorem handleCommand_of_checks (hg : GoesToChecks kind f s) :
    handleCommand kind admitted f s =
      if admission kind f s = .accepted then admitted f s
      else replyTo f false [replyHead f (admission kind f s) 0#8] (countRefused s) := by
  obtain ⟨hs, hn, hb⟩ := hg
  have hb' : ¬(f.destination = 255#8 ∧ discardedBroadcast kind = true) := fun h =>
    hb ⟨h.1, (discardedBroadcast_iff kind).1 h.2⟩
  unfold handleCommand
  rw [if_neg (ne_joining_of_speaking hs), if_neg hn, if_neg hb']
  cases admission kind f s <;> simp

/-- Whatever stands behind the front of the queue, the checks read none of it (R163). -/
theorem admission_withoutFront : admission kind f (s.withoutFront rest) = admission kind f s := rfl

theorem takeCommand_of_admitted (h : Admitted kind f rest s) :
    takeCommand kind admitted s = admitted f (s.withoutFront rest) := by
  obtain ⟨hf, hg, ha⟩ := h
  rw [takeCommand_of_atFront hf (speaking_active hg.1), handleCommand_of_checks (s := s.withoutFront rest) hg, admission_withoutFront, if_pos ha]

theorem takeCommand_of_refused (hf : AtFront kind f rest s) (hg : GoesToChecks kind f s)
    (ha : admission kind f s ≠ .accepted) :
    takeCommand kind admitted s =
      replyTo f false [replyHead f (admission kind f s) 0#8] (countRefused (s.withoutFront rest)) := by
  rw [takeCommand_of_atFront hf (speaking_active hg.1), handleCommand_of_checks (s := s.withoutFront rest) hg, admission_withoutFront, if_neg ha]

/-- What a command event can do (R156, R162, R163): nothing, the discard of the frame, NUMBER_CLASH, a refusal, or the
admission. -/
theorem takeCommand_cases (kind : Kind) (admitted : Frame → State → State) (s : State) :
    takeCommand kind admitted s = s
      ∨ (∃ f rest, AtFront kind f rest s ∧ (takeCommand kind admitted s = s.withoutFront rest
          ∨ takeCommand kind admitted s = setLatch .numberClash (s.withoutFront rest)
          ∨ takeCommand kind admitted s =
              replyTo f false [replyHead f (admission kind f s) 0#8] (countRefused (s.withoutFront rest))))
      ∨ ∃ f rest, Admitted kind f rest s ∧ takeCommand kind admitted s = admitted f (s.withoutFront rest) := by
  by_cases hno : ∀ f rest, AtFront kind f rest s → s.active = false
  · exact .inl (takeCommand_of_no_frame hno)
  push Not at hno
  obtain ⟨f, rest, hf, hact⟩ := hno
  have hact : s.active = true := by simpa using hact
  have htake := takeCommand_of_atFront (admitted := admitted) hf hact
  by_cases hm : s.control.mode = .joining
  · exact .inr (.inl ⟨f, rest, hf, .inl (htake.trans (handleCommand_of_joining hm))⟩)
  by_cases hn : f.source.toNat = s.config.number
  · exact .inr (.inl ⟨f, rest, hf, .inr (.inl (htake.trans (handleCommand_of_own_number hm hn)))⟩)
  by_cases hb : f.destination = 255#8 ∧ kind ∈ [.readView, .readCounters, .forget, .restart]
  · exact .inr (.inl ⟨f, rest, hf, .inl (htake.trans (handleCommand_of_broadcast hm hn hb))⟩)
  have hs : s.speaking = true := by
    rcases speaking_or_joining_or_inactive s with hs | hj | ha
    · exact hs
    · exact absurd hj hm
    · exact absurd (hact.symm.trans ha) (by decide)
  by_cases ha : admission kind f s = .accepted
  · exact .inr (.inr ⟨f, rest, ⟨hf, ⟨hs, hn, hb⟩, ha⟩, takeCommand_of_admitted ⟨hf, ⟨hs, hn, hb⟩, ha⟩⟩)
  · exact .inr (.inl ⟨f, rest, hf, .inr (.inr (takeCommand_of_refused hf ⟨hs, hn, hb⟩ ha))⟩)

/-- A command that is not admitted leaves all that is carried over (R162 to R165). -/
theorem takeCommand_carried_or (kind : Kind) (admitted : Frame → State → State) (s : State) :
    Carried s (takeCommand kind admitted s)
      ∨ ∃ f rest, Admitted kind f rest s ∧ takeCommand kind admitted s = admitted f (s.withoutFront rest) := by
  rcases takeCommand_cases kind admitted s with h | ⟨f, rest, -, h | h | h⟩ | h
  · exact .inl (.of_eq (congrArg State.carriedValues h))
  · exact .inl (h ▸ .of_eq rfl)
  · exact .inl (h ▸ (setLatch_carried _ _).after (.of_eq rfl))
  · exact .inl (h ▸ (replyTo_carried _ f _ _).after (.of_eq rfl))
  · exact .inr h

theorem takeCommand_carried (h : ∀ f t, Carried t (admitted f t)) : Carried s (takeCommand kind admitted s) := by
  rcases takeCommand_carried_or kind admitted s with hc | ⟨f, rest, -, he⟩
  · exact hc
  · exact he ▸ (h f _).after (.of_eq rfl)

theorem takeCommand_admitCommand_carried {effect : Frame → State → State} (h : ∀ f t, Carried t (effect f t)) :
    Carried s (takeCommand kind (admitCommand kind effect) s) :=
  takeCommand_carried fun f t => admitCommand_carried t f (h f t)

end Commands

/-! ### The other events, up to their end -/

section OtherEvents

variable (s : State)

theorem blockTimerExpiry_carried : Carried s (blockTimerExpiry s) := by
  unfold blockTimerExpiry
  split
  · split
    · split
      · exact .of_eq rfl
      · dsimp only
        split
        · exact (setLatch_carried _ _).after (.of_eq rfl)
        · exact .of_eq rfl
    · exact .refl s
    · exact .refl s
  · exact .refl s

theorem shedTimerExpiry_carried : Carried s (shedTimerExpiry s) := by
  unfold shedTimerExpiry
  (repeat' split) <;> exact .of_eq rfl

theorem reportIntervalExpiry_carried : Carried s (reportIntervalExpiry s) := by
  unfold reportIntervalExpiry
  (repeat' split) <;> exact .of_eq (by simp [State.carriedValues, setIntervalTimer])

theorem spacingTimerExpiry_carried : Carried s (spacingTimerExpiry s) := by
  unfold spacingTimerExpiry
  split <;> exact .of_eq (by simp [State.carriedValues])

theorem sampleRecord_carried (characters : List Byte) : Carried s (sampleRecord characters s) := by
  unfold sampleRecord
  split <;> exact .of_eq (by simp [State.carriedValues, acceptRecord])

theorem sampleTimerExpiry_carried : Carried s (sampleTimerExpiry s) := by
  unfold sampleTimerExpiry
  split
  · exact (setLatch_carried _ _).after (.of_eq rfl)
  · exact .refl s

theorem fieldHoldTimerExpiry_carried (n : FieldName) : Carried s (fieldHoldTimerExpiry n s) := by
  unfold fieldHoldTimerExpiry
  split
  · refine (setLatch_carried _ _).after (.of_eq ?_)
    split <;> simp [State.carriedValues]
  · exact .refl s

theorem debounceTimerExpiry_carried (i : InputName) : Carried s (debounceTimerExpiry i s) := by
  unfold debounceTimerExpiry
  split
  · exact recogniseChange_carried s i
  · exact .refl s

/-- The raw level of an input follows its pin (R133). -/
def State.withRaw (s : State) (i : InputName) (level : Level) : State :=
  setInput i { s.measure.inputs.get i with raw := level } s

/-- RAW_LEVEL_CHANGE moves the raw level of its input, and is then dealt with (R133). -/
theorem rawLevelChange_carried (i : InputName) (level : Level) :
    Carried (s.withRaw i level) (rawLevelChange i level s) := by
  unfold rawLevelChange
  dsimp only
  split
  next hsame =>
    have hself : s.withRaw i level = s := by
      rw [State.withRaw, ← hsame]
      exact setInput_self i s
    rw [hself]
    exact .refl s
  next =>
    split
    · exact rawChanged_carried _ i
    · exact .refl _

theorem silenceTimerExpiry_carried : Carried s (silenceTimerExpiry s) := by
  unfold silenceTimerExpiry
  split <;> exact .of_eq rfl

theorem countCorrected_carried (corrected : Bool) : Carried s (countCorrected corrected s) := by
  cases corrected <;> exact .of_eq rfl

theorem discardFrame_carried : Carried s (discardFrame s) := (setLatch_carried _ _).after (.of_eq rfl)

theorem offerFrame_carried (f : Frame) : Carried s (offerFrame f s) := by
  unfold offerFrame
  split
  · exact .of_eq rfl
  · exact (setLatch_carried _ _).after (.of_eq rfl)

theorem receiveFrame_carried (f : Frame) : Carried s (receiveFrame f s) := by
  unfold receiveFrame
  dsimp only
  split
  · exact .of_eq rfl
  · split
    · exact .of_eq rfl
    · split
      · exact .of_eq rfl
      · exact (offerFrame_carried _ f).after (.of_eq rfl)

theorem frameReceived_carried (raw : RawGroup) : Carried s (frameReceived raw s) := by
  unfold frameReceived
  split
  · split
    · exact (receiveFrame_carried _ _).after ((countCorrected_carried s _).then_eq rfl)
    · exact .refl s
    · exact .refl s
    · exact .refl s
  · exact .refl s

theorem frameDiscarded_carried (raw : RawGroup) : Carried s (frameDiscarded raw s) := by
  unfold frameDiscarded
  split
  · split
    · exact (discardFrame_carried _).after (countCorrected_carried s _)
    · exact .refl s
    · exact .refl s
    · exact .refl s
  · exact .refl s

theorem groupComplete_carried (raw : RawGroup) : Carried s (groupComplete raw s) := by
  unfold groupComplete
  split
  · split
    · exact (countCorrected_carried _ _).after (.of_eq rfl)
    · exact .refl s
    · exact .refl s
    · exact .refl s
  · exact .refl s

theorem breakDetected_carried (fromOwnJam : Bool) : Carried s (breakDetected fromOwnJam s) := by
  unfold breakDetected
  split <;> exact .of_eq rfl

theorem lineIdle_carried : Carried s (lineIdle s) := by
  unfold lineIdle
  split
  · dsimp only
    split
    · exact (discardFrame_carried s).then_eq rfl
    · exact .of_eq rfl
  · exact .refl s

theorem startBitHeard_carried : Carried s (startBitHeard s) := by
  unfold startBitHeard
  split <;> exact .of_eq rfl

theorem markerReceived_carried (character : Byte) : Carried s (markerReceived character s) := by
  unfold markerReceived
  split <;> exact .of_eq rfl

theorem attemptStart_carried : Carried s (attemptStart s) := by
  unfold attemptStart startAttempt
  (repeat' split) <;> exact .of_eq rfl

theorem collision_carried : Carried s (collision s) := by
  unfold collision
  split <;> exact .of_eq rfl

theorem departureAlarm_carried (abandoned : Bool) (e : TxEntry) : Carried s (departureAlarm abandoned e s) := by
  have hdue : Carried s (if (e.isAlarm && s.speaking) = true then offerDueAlarm s else s) := by
    split
    · exact offerDueAlarm_carried s
    · exact .refl s
  unfold departureAlarm
  dsimp only
  split
  · exact (setLatch_carried _ _).after hdue
  · exact hdue

theorem depart_carried (abandoned : Bool) (choice : ChoiceOrder) (order : OfferOrder) :
    Carried s (depart abandoned choice order s) := by
  have hnote (e : TxEntry) : Carried s (noteDeparture e (clearInFlight s)) := .of_eq rfl
  have halarm (e : TxEntry) {t : State} (ht : Carried s t) : Carried s (departureAlarm abandoned e t) :=
    (departureAlarm_carried t abandoned e).after ht
  have hchoose {t : State} (ht : Carried s t) : Carried s (arbitrate t) := (arbitrate_carried t).after ht
  have hqueue {t : State} (ht : Carried s t) : Carried s (queueReport t) := (queueReport_carried t).after ht
  unfold depart
  split
  · exact .refl s
  · dsimp only
    split
    · exact hqueue (hchoose (halarm _ (hchoose (hnote _))))
    · exact halarm _ (hchoose (hqueue (hchoose (hnote _))))
    · exact hqueue (halarm _ (hnote _))
    · exact hqueue (halarm _ (hnote _))
    · exact halarm _ (hqueue (hnote _))
    · exact halarm _ (hqueue (hnote _))

theorem abandon_carried (choice : ChoiceOrder) (order : OfferOrder) : Carried s (abandon choice order s) := by
  cases choice
  · exact depart_carried s true _ order
  · exact depart_carried s true _ order
  · exact (depart_carried _ false _ order).after (setLatch_carried s _)

theorem jamEnd_carried (choice : ChoiceOrder) (order : OfferOrder) : Carried s (jamEnd choice order s) := by
  unfold jamEnd
  split
  · dsimp only
    split
    · exact .of_eq rfl
    · exact (abandon_carried _ choice order).after (.of_eq rfl)
  · exact .refl s

theorem entrySent_carried (choice : ChoiceOrder) (order : OfferOrder) : Carried s (entrySent choice order s) := by
  unfold entrySent
  split
  · exact (depart_carried _ false choice order).after (.of_eq rfl)
  · exact .refl s

end OtherEvents

/-! ### The events that move Station Control -/

section Moves

variable (s : State)

/-- RUNNING with the join timer stopped (R139). -/
def State.toRunning (s : State) : State :=
  s.setControl { s.control with
    mode := .running
    joinTimer := .stopped }

/-- RUNNING with the hold timer stopped (R141). -/
def State.endHold (s : State) : State :=
  s.setControl { s.control with
    mode := .running
    holdTimer := .stopped }

theorem joinTimerExpiry_carried (order : OfferOrder) (hrun : s.control.joinTimer.isRunning = true) :
    Carried s.toRunning (joinTimerExpiry order s) := by
  unfold joinTimerExpiry
  rw [if_pos hrun]
  cases order
  · exact (queueReport_carried _).after ((arbitrate_carried _).after ((offerDueAlarm_carried _).after (.of_eq rfl)))
  · exact (offerDueAlarm_carried _).after ((arbitrate_carried _).after ((queueReport_carried _).after (.of_eq rfl)))

theorem joinTimerExpiry_of_stopped (order : OfferOrder) (hstop : s.control.joinTimer.isRunning = false) :
    joinTimerExpiry order s = s := by
  simp [joinTimerExpiry, hstop]

theorem holdTimerExpiry_of_running (hrun : s.control.holdTimer.isRunning = true) :
    holdTimerExpiry s = setLatch .holdExpired s.endHold := by
  unfold holdTimerExpiry
  rw [if_pos hrun]
  rfl

theorem holdTimerExpiry_of_stopped (hstop : s.control.holdTimer.isRunning = false) : holdTimerExpiry s = s := by
  simp [holdTimerExpiry, hstop]

/-- An admitted HOLD and its reply (R140). -/
theorem admitHold_carried (f : Frame) :
    Carried (enterHold (holdDuration f) s) (admitCommand .hold (fun f => enterHold (holdDuration f)) f s) :=
  (replyTo_carried _ f _ _).after (.of_eq rfl)

theorem releaseHold_of_hold (hm : s.control.mode = .hold) : releaseHold s = s.endHold := by
  unfold releaseHold
  rw [if_pos hm]
  rfl

theorem releaseHold_of_not_hold (hm : s.control.mode ≠ .hold) : releaseHold s = s := by
  simp [releaseHold, hm]

/-- An admitted RELEASE and its reply (R141). -/
theorem admitRelease_carried (f : Frame) :
    Carried (releaseHold s) (admitCommand .release (fun _ => releaseHold) f s) :=
  (replyTo_carried _ f _ _).after (.of_eq rfl)

theorem leaveStarting_carried (l : Loaded) : Carried (enterJoining l s) (leaveStarting l s) := by
  have hlatch (b : Bool) (k : Latch) (t : State) : Carried t (if b = true then setLatch k t else t) := by
    cases b
    · exact .refl t
    · exact setLatch_carried t k
  have hwatch (t : State) : Carried t (watchInputs t) :=
    (watchInput_carried _ _).after ((watchInput_carried _ _).after
      ((watchInput_carried _ _).after (watchInput_carried t _)))
  exact (hwatch _).after ((hlatch _ _ _).after (hlatch _ _ _))

end Moves

/-! ### The end of an event, and every event -/

theorem settle_of_restartDue {u : State} (h : u.command.restartDue = true) : settle u = restartReset u := by
  simp [settle, h]

theorem settle_of_not_restartDue {u : State} (h : u.command.restartDue = false) : settle u = arbitrate u := by
  simp [settle, h]

@[simp] theorem settle_pending (u : State) : (settle u).pending = u.pending := by
  unfold settle
  split
  · rfl
  · simp

/-- The end of an event carries everything over but for the reset of a RESTART (R158, R167). -/
theorem settle_cases (u : State) :
    Carried u (settle u) ∨ u.command.restartDue = true ∧ settle u = restartReset u := by
  cases h : u.command.restartDue with
  | true => exact .inr ⟨rfl, settle_of_restartDue h⟩
  | false => exact .inl (settle_of_not_restartDue h ▸ arbitrate_carried u)

/-- An event that moves Station Control by itself: what it moves, and what the rest of it carries over (R139 to R141, R146,
R168 to R173). -/
inductive Moved (s : State) : Instr → State → Prop
  | assert : Moved s .resetPinAssert (resetBlocks s)
  | release (pins : StrapPins) : Moved s (.resetPinRelease pins) (resetPinRelease pins s)
  | idle (c : Instr) {u : State} : Carried s u → Moved s c u
  | unconfigured (bytes : List Byte) : s.readInProgress = true →
      Moved s (.descriptorReadComplete bytes) (enterUnconfigured s)
  | joining (bytes : List Byte) (l : Loaded) {u : State} : s.readInProgress = true → Carried (enterJoining l s) u →
      Moved s (.descriptorReadComplete bytes) u
  | running (order : OfferOrder) {u : State} : s.control.joinTimer.isRunning = true → Carried s.toRunning u →
      Moved s (.joinTimerExpiry order) u
  | expired {u : State} : s.control.holdTimer.isRunning = true → Carried s.endHold u → Moved s .holdTimerExpiry u
  | hold {u : State} (duration : Nat) : s.speaking = true → Carried (enterHold duration s) u → Moved s .hold u
  | released {u : State} : s.control.mode = .hold → Carried s.endHold u → Moved s .release u
  | level (i : InputName) (level : Level) {u : State} : Carried (s.withRaw i level) u → Moved s (.rawLevelChange i level) u
  | cleared {u : State} {f : Frame} {rest : List Frame} (mask : BitVec 24) : Admitted .clearConditions f rest s →
      Carried (clearConditions mask s) u → Moved s .clearConditions u

/-- What remains set where a mask is cleared (R146). -/
theorem clearConditions_latched (mask : BitVec 24) (s : State) (l : Latch) :
    (clearConditions mask s).latched l = (s.latched l && !mask.getLsbD l.index) := by
  have hbit : (s.condition.latches &&& ~~~ (mask.extractLsb' 0 14)).getLsbD l.index
      = (s.latched l && !mask.getLsbD l.index) := by
    have hlt : l.index < 14 := by cases l <;> decide
    simp [State.latched, hlt]
  unfold clearConditions
  dsimp only
  split <;> exact hbit

theorem clearConditions_values (mask : BitVec 24) (s : State) :
    (clearConditions mask s).pending = s.pending ∧ (clearConditions mask s).control = s.control
      ∧ (clearConditions mask s).measure.functions = s.measure.functions
      ∧ (clearConditions mask s).measure.inputs.mapEach (fun v => v.raw) = s.measure.inputs.mapEach (fun v => v.raw) := by
  unfold clearConditions
  dsimp only
  split <;> exact ⟨rfl, rfl, rfl, rfl⟩

theorem Carried.clear {s t : State} (h : Carried s t) (mask : BitVec 24) :
    Carried (clearConditions mask s) (clearConditions mask t) := by
  obtain ⟨hp, hc, hf, hr⟩ := clearConditions_values mask s
  obtain ⟨hp', hc', hf', hr'⟩ := clearConditions_values mask t
  refine ⟨hp'.trans (h.pending.trans hp.symm), hc'.trans (h.control.trans hc.symm),
    hf'.trans (h.functions.trans hf.symm), hr'.trans (h.raws.trans hr.symm), fun l hl => ?_⟩
  rw [clearConditions_latched, Bool.and_eq_true] at hl ⊢
  exact ⟨h.latched l hl.1, hl.2⟩

theorem admitClear_carried (f : Frame) (s : State) : Carried (clearConditions (clearMask f) s) (admitClear f s) := by
  unfold admitClear
  split
  · exact (replyTo_carried _ f _ _).after (.of_eq rfl)
  · exact (admitCommand_carried s (effect := noEffect) f (.refl s)).clear _

/-- Every event, up to its end. -/
theorem event_moved (c : Instr) (s : State) : Moved s c (eventOf c s) := by
  cases c with
  | resetPinAssert => exact .assert
  | resetPinRelease pins => exact .release pins
  | descriptorReadComplete bytes =>
    show Moved s _ (descriptorReadComplete bytes s)
    unfold descriptorReadComplete
    split
    next hread =>
      split
      · exact .joining bytes _ hread (leaveStarting_carried s _)
      · exact .unconfigured bytes hread
    next => exact .idle _ (.refl s)
  | joinTimerExpiry order =>
    cases hrun : s.control.joinTimer.isRunning with
    | true => exact .running order hrun (joinTimerExpiry_carried s order hrun)
    | false => exact .idle _ (.of_eq (congrArg State.carriedValues (joinTimerExpiry_of_stopped s order hrun)))
  | holdTimerExpiry =>
    cases hrun : s.control.holdTimer.isRunning with
    | true => exact .expired hrun ((setLatch_carried _ _).trans_eq (holdTimerExpiry_of_running s hrun))
    | false => exact .idle _ (.of_eq (congrArg State.carriedValues (holdTimerExpiry_of_stopped s hrun)))
  | hold =>
    rcases takeCommand_carried_or .hold (admitCommand .hold fun f => enterHold (holdDuration f)) s with
      h | ⟨f, rest, ⟨-, hg, -⟩, he⟩
    · exact .idle _ h
    · have hadm := admitHold_carried (s.withoutFront rest) f
      exact .hold (holdDuration f) hg.1 (Carried.trans_eq (hadm.after (.of_eq rfl)) he)
  | release =>
    rcases takeCommand_carried_or .release (admitCommand .release fun _ => releaseHold) s with h | ⟨f, rest, -, he⟩
    · exact .idle _ h
    · have hrel := admitRelease_carried (s.withoutFront rest) f
      show Moved s _ (takeCommand .release (admitCommand .release fun _ => releaseHold) s)
      rw [he]
      by_cases hm : s.control.mode = .hold
      · rw [releaseHold_of_hold (s := s.withoutFront rest) hm] at hrel
        exact .released hm (hrel.after (.of_eq rfl))
      · rw [releaseHold_of_not_hold (s := s.withoutFront rest) hm] at hrel
        exact .idle _ (hrel.after (.of_eq rfl))
  | clearConditions =>
    rcases takeCommand_carried_or .clearConditions admitClear s with h | ⟨f, rest, hadm, he⟩
    · exact .idle _ h
    · refine .cleared (clearMask f) hadm (((admitClear_carried f _).after ?_).trans_eq he)
      exact Carried.clear (s := s) (t := s.withoutFront rest) (.of_eq rfl) _
  | sampleRecordBroken => exact .idle _ (.refl s)
  | safeRecordTimerExpiry => exact .idle _ (safeRecordTimerExpiry_carried s)
  | valveLoopControlPeriodExpiry order => exact .idle _ (valvePeriodExpiry_carried s order)
  | headControlPeriodExpiry => exact .idle _ (headPeriodExpiry_carried s)
  | shareComputation => exact .idle _ (shareComputation_carried s)
  | ageTimerExpiry number => exact .idle _ (ageTimerExpiry_carried s number)
  | takeStationReport => exact .idle _ (takeStationReport_carried s)
  | takeAlarmFrame => exact .idle _ (takeAlarmFrame_carried s)
  | limitBlock => exact .idle _ (takeCommand_admitCommand_carried fun f t => limitBlockEffect_carried t f)
  | limitCancel => exact .idle _ (takeCommand_admitCommand_carried (effect := limitCancelEffect) fun f t => .of_eq rfl)
  | shed order => exact .idle _ (takeCommand_carried fun f t => admitShed_carried t order f)
  | forget => exact .idle _ (takeCommand_admitCommand_carried fun f t => forgetEntry_carried t _)
  | restart => exact .idle _ (takeCommand_admitCommand_carried (effect := noEffect) fun f t => .refl t)
  | readView => exact .idle _ (takeCommand_admitCommand_carried (effect := noEffect) fun f t => .refl t)
  | readCounters => exact .idle _ (takeCommand_admitCommand_carried (effect := noEffect) fun f t => .refl t)
  | blockTimerExpiry => exact .idle _ (blockTimerExpiry_carried s)
  | shedTimerExpiry => exact .idle _ (shedTimerExpiry_carried s)
  | reportIntervalExpiry => exact .idle _ (reportIntervalExpiry_carried s)
  | spacingTimerExpiry => exact .idle _ (spacingTimerExpiry_carried s)
  | sampleRecord characters => exact .idle _ (sampleRecord_carried s characters)
  | sampleTimerExpiry => exact .idle _ (sampleTimerExpiry_carried s)
  | fieldHoldTimerExpiry field => exact .idle _ (fieldHoldTimerExpiry_carried s field)
  | rawLevelChange input level => exact .level input level (rawLevelChange_carried s input level)
  | debounceTimerExpiry input => exact .idle _ (debounceTimerExpiry_carried s input)
  | silenceTimerExpiry => exact .idle _ (silenceTimerExpiry_carried s)
  | frameReceived group => exact .idle _ (frameReceived_carried s group)
  | frameDiscarded group => exact .idle _ (frameDiscarded_carried s group)
  | breakDetected fromOwnJam => exact .idle _ (breakDetected_carried s fromOwnJam)
  | lineIdle => exact .idle _ (lineIdle_carried s)
  | startBitHeard => exact .idle _ (startBitHeard_carried s)
  | attemptStart => exact .idle _ (attemptStart_carried s)
  | collision => exact .idle _ (collision_carried s)
  | jamEnd choice order => exact .idle _ (jamEnd_carried s choice order)
  | entrySent choice order => exact .idle _ (entrySent_carried s choice order)
  | groupComplete group => exact .idle _ (groupComplete_carried s group)
  | markerReceived character => exact .idle _ (markerReceived_carried s character)

/-! ### The machine -/

/-- Settles O1. -/
theorem stepRunsFrontCommand : Obligations.StepRunsFrontCommand := by
  refine ⟨fun c s => rfl, fun s hs => ?_⟩
  unfold step
  rw [hs]

theorem Moved.pending {c : Instr} {s u : State} (h : Moved s c u) : u.pending = s.pending := by
  cases h with
  | assert => rfl
  | release pins =>
    unfold resetPinRelease
    split <;> rfl
  | idle c hu => exact hu.pending
  | unconfigured bytes _ => rfl
  | joining bytes l _ hu => exact hu.pending.trans (by rw [enterJoining_eq])
  | running order _ hu => exact hu.pending
  | expired _ hu => exact hu.pending
  | hold duration _ hu => exact hu.pending
  | released _ hu => exact hu.pending
  | level i level hu => exact hu.pending
  | cleared mask _ hu => exact hu.pending.trans (clearConditions_values mask s).1

/-- Settles O2. -/
theorem everyEventCompletes : Obligations.EveryEventCompletes := by
  intro c s
  rcases exec_cases c s with he | ⟨he, -⟩
  · exact ⟨_, he, (settle_pending _).trans (event_moved c s).pending⟩
  · exact ⟨s, he, rfl⟩

/-- Up to its end, an event leaves a latch that is set as it is, unless it is a reset or clears a mask (R143). -/
theorem Moved.latched {c : Instr} {s u : State} (h : Moved s c u) {l : Latch} (hl : s.latched l = true) :
    u.latched l = true ∨ c = .resetPinAssert
      ∨ (c = .clearConditions ∧ ∃ f rest, Admitted .clearConditions f rest s) := by
  cases h with
  | assert => exact .inr (.inl rfl)
  | release pins =>
    unfold resetPinRelease
    split <;> exact .inl hl
  | idle c hu => exact .inl (hu.latched l hl)
  | unconfigured bytes _ => exact .inl hl
  | joining bytes joined _ hu => exact .inl (hu.latched l (by rw [enterJoining_eq]; exact hl))
  | running order _ hu => exact .inl (hu.latched l hl)
  | expired _ hu => exact .inl (hu.latched l hl)
  | hold duration _ hu => exact .inl (hu.latched l hl)
  | released _ hu => exact .inl (hu.latched l hl)
  | level i level hu => exact .inl (hu.latched l hl)
  | cleared mask hadm _ => exact .inr (.inr ⟨rfl, _, _, hadm⟩)

/-- Settles O58: up to its end an event keeps a latch, and its end keeps it or resets the station. -/
theorem latchesStayUntilCleared : Obligations.LatchesStayUntilCleared := by
  intro c l s t ht hl
  rcases exec_cases c s with he | ⟨he, -⟩
  · obtain rfl : settle (eventOf c s) = t := Host.Outcome.next.inj (he.symm.trans ht)
    rcases (event_moved c s).latched hl with hset | rfl | hclear
    · rcases settle_cases (eventOf c s) with hkept | ⟨-, hreset⟩
      · exact .inl (hkept.latched l hset)
      · exact .inr (.inl (hreset ▸ rfl))
    · exact .inr (.inl rfl)
    · exact .inr (.inr hclear)
  · exact .inl (Host.Outcome.next.inj (he.symm.trans ht) ▸ hl)

/-! ### The configuration (R173) -/

/-- What is loaded from the descriptor and the straps stands in t as in s. -/
def SameConfiguration (s t : State) : Prop :=
  t.control.descriptor = s.control.descriptor ∧ t.control.driveBand = s.control.driveBand
    ∧ t.control.strapReading = s.control.strapReading ∧ t.measure.functions = s.measure.functions

theorem Carried.sameConfiguration {s t u : State} (h : Carried t u) (hst : SameConfiguration s t) :
    SameConfiguration s u := by
  obtain ⟨hd, hb, hr, hf⟩ := hst
  exact ⟨by rw [h.control, hd], by rw [h.control, hb], by rw [h.control, hr], by rw [h.functions, hf]⟩

/-- No event but a reset moves the configuration of a station that has left STARTING (R173). -/
theorem Moved.sameConfiguration {c : Instr} {s u : State} (h : Moved s c u) (hm : ModeHeld s) (hact : s.active = true) :
    c = .resetPinAssert ∨ SameConfiguration s u := by
  have hsame : SameConfiguration s s := ⟨rfl, rfl, rfl, rfl⟩
  have hnot : s.control.mode ≠ .starting := fun hs => absurd (hact.symm.trans (inactive_of_starting hs)) (by decide)
  cases h with
  | assert => exact .inl rfl
  | release pins =>
    obtain ⟨-, -, -, hpin, -⟩ := hm
    have hoff : s.control.pinAsserted ≠ true := fun hp => hnot (hpin hp).1
    rw [resetPinRelease, if_neg hoff]
    exact .inr hsame
  | idle c hu => exact .inr (hu.sameConfiguration hsame)
  | unconfigured bytes hread => exact absurd (readInProgress_iff.1 hread).1 hnot
  | joining bytes l hread _ => exact absurd (readInProgress_iff.1 hread).1 hnot
  | running order _ hu => exact .inr (hu.sameConfiguration hsame)
  | expired _ hu => exact .inr (hu.sameConfiguration hsame)
  | hold duration _ hu => exact .inr (hu.sameConfiguration hsame)
  | released _ hu => exact .inr (hu.sameConfiguration hsame)
  | level i level hu => exact .inr (hu.sameConfiguration hsame)
  | cleared mask _ hu =>
    obtain ⟨-, hcontrol, hfunctions, -⟩ := clearConditions_values mask s
    refine .inr (hu.sameConfiguration ?_)
    unfold SameConfiguration
    rw [hcontrol, hfunctions]
    exact ⟨rfl, rfl, rfl, rfl⟩

/-- Settles O16. -/
theorem configurationFixedUntilReset : Obligations.ConfigurationFixedUntilReset := by
  intro c s t hs ht hact
  obtain rfl : settle (eventOf c s) = t := Host.Outcome.next.inj ((hs.exec_event c).symm.trans ht)
  rcases (event_moved c s).sameConfiguration hs.eventOk.mode hact with rfl | hsame
  · exact .inl rfl
  · rcases settle_cases (eventOf c s) with hkept | ⟨-, hreset⟩
    · exact .inr (hkept.sameConfiguration hsame)
    · exact .inl (hreset ▸ rfl)

end Sys2Proof.Machine
end

section
/-! The statements on resets, start-up and the modes after it (spec/08, spec/11). -/

namespace Sys2Proof.Machine

/-! ### The end of an event that leaves the queue settled -/

theorem StationOk.exec_eq {c : Instr} {s u : State} (hs : StationOk s) (hc : Machine.exec c s = done (settle u))
    (hline : u.line = s.line) (hcommand : u.command = s.command) : Machine.exec c s = .next u := by
  rw [hc, settle_of_settled]
  · rfl
  · obtain ⟨hdue, hwait⟩ := hs.settled
    exact ⟨by rw [hcommand]; exact hdue, by rw [hline]; exact hwait⟩

/-- An event that leaves the whole state as it is. -/
theorem StationOk.exec_self {c : Instr} {s u : State} (hs : StationOk s) (hc : Machine.exec c s = done (settle u)) (hu : u = s) :
    Machine.exec c s = .next s := by
  subst hu
  exact hs.exec_eq hc rfl rfl

/-! ### Resets (R168) -/

/-- Settles O5. -/
theorem resetPinReturnsToReset : Obligations.ResetPinReturnsToReset := by
  intro s
  have hsettle : settle (resetBlocks s) = resetBlocks s := settle_of_settled (resetBlocks_stationOk s).settled
  have hexec : exec .resetPinAssert s = .next (resetBlocks s) := congrArg Host.Outcome.next hsettle
  exact ⟨resetBlocks s, hexec, rfl, rfl, rfl, rfl, rfl, rfl, rfl, rfl, rfl, rfl, rfl, rfl, rfl, rfl, rfl, rfl, rfl, rfl,
    rfl, rfl, rfl, rfl, rfl, rfl⟩

/-- The strap reading by the pins (R169). -/
theorem readStraps_eq (pins : StrapPins) :
    readStraps pins =
      ⟨(if pins.band2 = .high then 4 else 0) + (if pins.band1 = .high then 2 else 0)
          + (if pins.band0 = .high then 1 else 0),
        if pins.bandEnd = .low then .top else .bottom⟩ := by
  obtain ⟨b2, b1, b0, e⟩ := pins
  have hunit (l : Level) : Level.value l = if l = .high then 1 else 0 := by cases l <;> rfl
  cases e <;> simp [readStraps, hunit]

/-- Settles O6. -/
theorem pinReleaseSamplesStraps : Obligations.PinReleaseSamplesStraps := by
  intro pins s hs
  obtain ⟨-, -, -, hpin, -⟩ := hs.eventOk.mode
  refine ⟨fun hp => ?_, fun hp => ?_⟩
  · obtain ⟨hm, -⟩ := hpin hp
    rw [← readStraps_eq]
    refine hs.exec_eq (congrArg (done ∘ settle) ?_) rfl rfl
    rw [resetPinRelease, if_pos hp, ← hm]
    rfl
  · exact hs.exec_self rfl (by simp [resetPinRelease, hp])

/-! ### UNCONFIGURED (R170) -/

/-- The characters of a SAFE record (R181). -/
theorem safeRecord_eq (failsafe : Bool) :
    safeRecord failsafe = [0x5A#8, 0b0000100#7 ++ BitVec.ofBool failsafe, 0xFF#8, 0xFF#8] := by
  cases failsafe <;> rfl

/-- Settles O7. -/
theorem invalidDescriptorEndsUnconfigured : Obligations.InvalidDescriptorEndsUnconfigured := by
  refine ⟨judgeDescriptor_isSome, fun bytes s hs hread hnone => ?_⟩
  have hm := (readInProgress_iff.1 hread).1
  have hd : s.control.descriptor = none := by
    have := hs.eventOk.config.1
    simpa [inactive_of_starting hm] using this
  refine ⟨enterUnconfigured s, BitVec.ofBool (Config.safeRecordFailsafe s.driveLane.length),
    hs.exec_eq (congrArg (done ∘ settle) ?_) rfl rfl, rfl, ?_, rfl, rfl, hd, ?_⟩
  · simp [descriptorReadComplete, hread, hnone]
  · rw [← safeRecord_eq]
    rfl
  · simp [Unchanged, enterUnconfigured, sendSafeRecord]

/-- Settles O8. -/
theorem safeRecordEachSecond : Obligations.SafeRecordEachSecond := by
  intro s hs
  obtain ⟨-, -, hsafe, -⟩ := hs.eventOk.mode
  refine ⟨fun hm => ?_, fun hm => ?_⟩
  · have hrun : s.control.safeTimer.isRunning = true := by simpa [hm] using hsafe
    refine ⟨hrun, BitVec.ofBool (Config.safeRecordFailsafe s.driveLane.length),
      hs.exec_eq (congrArg (done ∘ settle) ?_) rfl rfl⟩
    rw [safeRecordTimerExpiry, if_pos hrun, ← safeRecord_eq]
    rfl
  · have hstop : s.control.safeTimer.isRunning = false := by simpa [hm] using hsafe
    exact hs.exec_self rfl (by simp [safeRecordTimerExpiry, hstop])

/-! ### Events out of place -/

theorem valvePeriodExpiry_of_stopped {s : State} (h : s.valve.periodTimer.isRunning = false) (order : GrantOrder) :
    valvePeriodExpiry order s = s := by
  simp [valvePeriodExpiry, h]

theorem headPeriodExpiry_of_stopped {s : State} (h : s.head.periodTimer.isRunning = false) : headPeriodExpiry s = s := by
  simp [headPeriodExpiry, h]

theorem takeFront_of_other_kind {s : State} {code : Byte} (h : ∀ f ∈ s.line.rxQueue.head?, f.kind ≠ code) :
    takeFront (fun f => f.kind == code) s = none := by
  unfold takeFront
  split
  · rfl
  next f rest hq =>
    have hk : f.kind ≠ code := h f (by rw [hq]; rfl)
    simp [hk]

theorem takeCommand_of_other_kind {s : State} {kind : Kind} (h : ∀ f ∈ s.line.rxQueue.head?, f.kind ≠ kind.code)
    (admitted : Frame → State → State) : takeCommand kind admitted s = s := by
  rw [takeCommand, takeFront_of_other_kind h]

/-- Settles O60. -/
theorem eventsOutOfPlaceDoNothing : Obligations.EventsOutOfPlaceDoNothing := by
  intro s hs
  obtain ⟨-, -, -, -, -, -, -, hvt, hht⟩ := hs.eventOk.mode
  refine ⟨fun hf => ?_, fun hf => ?_, fun kind order c hc hf => ?_, fun ht order => ?_, fun hp => ?_, fun hr bytes => ?_⟩
  · have hnone := takeFront_of_other_kind (code := Kind.stationReport.code) hf
    exact hs.exec_self rfl (by rw [takeStationReport, hnone])
  · have hnone := takeFront_of_other_kind (code := Kind.alarm.code) hf
    exact hs.exec_self rfl (by rw [takeAlarmFrame, hnone])
  · cases kind <;> cases hc <;> exact hs.exec_self rfl (takeCommand_of_other_kind hf _)
  · exact hs.exec_self rfl (valvePeriodExpiry_of_stopped (hvt.trans ht) order)
  · exact hs.exec_self rfl (headPeriodExpiry_of_stopped (hht.trans hp))
  · exact hs.exec_self rfl (by simp [descriptorReadComplete, hr])

/-! ### The entry to JOINING (R173) -/

theorem functionInForce_of_fitting {r : Role} {code : Byte} {f : InputFunction} (h : (code, f) ∈ fittingFunctions r) :
    functionInForce r code = f ∧ functionReplaced r code = false := by
  cases r <;> fin_cases h <;> exact ⟨rfl, rfl⟩

/-- A code read as a function that fits the role stands in the table of R135. -/
theorem mem_fittingFunctions {r : Role} {code : Byte} {f : InputFunction} (h : readInputFunction code = some f)
    (hf : functionFits r f = true) : (code, f) ∈ fittingFunctions r := by
  unfold readInputFunction at h
  split_ifs at h with h0 h1 h2 h3 h4 <;> obtain rfl := Option.some.inj h <;> subst code <;> cases r <;>
    simp_all [fittingFunctions, functionFits]

theorem functionReplaced_iff (r : Role) (code : Byte) :
    functionReplaced r code = true ↔ ∀ f, (code, f) ∉ fittingFunctions r := by
  refine ⟨fun h f hf => absurd (h.symm.trans (functionInForce_of_fitting hf).2) (by decide), fun h => ?_⟩
  unfold functionReplaced
  split
  next f hread => simpa using fun hfit => h f (mem_fittingFunctions hread hfit)
  next => rfl

/-- A code that names no function fitting the role is treated as NONE (R135). -/
theorem functionInForce_of_replaced {r : Role} {code : Byte} (h : functionReplaced r code = true) :
    functionInForce r code = .none := by
  unfold functionReplaced at h
  unfold functionInForce
  split
  next f hread =>
    rw [hread] at h
    rw [if_neg (by simpa using h)]
  next => rfl

theorem anyFunctionReplaced_iff (r : Role) (codes : PerInput Byte) :
    anyFunctionReplaced r codes = true ↔ ∃ i, functionReplaced r (codes.get i) = true := by
  rw [exists_inputName]
  simp [anyFunctionReplaced, PerInput.toList, PerInput.get, or_assoc]

/-- What the descriptor's codes make of the functions, and when DESCRIPTOR_CLAMPED is called for (R135, R171, R172). -/
theorem loadDescriptor_clamped (raw : Descriptor) (r : StrapReading) :
    (loadDescriptor raw r).clamped = true ↔
      clampDescriptor raw ≠ raw
        ∨ (effectiveBand (clampDescriptor raw) (hardwareBand r (driveRange (clampDescriptor raw)))).2 = true
        ∨ ∃ i, ∀ f, (raw.functionCodes.get i, f) ∉ fittingFunctions raw.role := by
  simp only [← functionReplaced_iff, ← anyFunctionReplaced_iff, loadDescriptor, Bool.or_eq_true, decide_eq_true_eq,
    or_assoc]
  rfl

theorem loadDescriptor_functions (raw : Descriptor) (r : StrapReading) (i : InputName) :
    (loadDescriptor raw r).functions.get i = functionInForce raw.role (raw.functionCodes.get i) :=
  PerInput.get_mapEach _ _ _

/-- The state after the end of STARTING with a valid descriptor, but for its condition (R173). -/
theorem leaveStarting_eq {s : State} (h : EventOk s) (hs : s.active = false) (l : Loaded) :
    leaveStarting l s =
      { s with
        control := joiningControl l s.control
        line := { s.line with silenceTimer := startSeconds l.descriptor.silenceTime }
        measure := { s.measure with
          functions := l.functions
          sampleTimer := startTenths l.descriptor.sampleTimeout
          inputs := watchedInputs l.descriptor s.measure.inputs }
        valve := joiningValve l.descriptor s.valve
        head := joiningHead l.descriptor s.head
        condition := (leaveStarting l s).condition } := by
  obtain ⟨hj, hin⟩ := joined_leaveStarting h hs l
  conv_lhs => rw [hj.same, hin, enterJoining_eq]
  rfl

/-- Settles O9. -/
theorem validDescriptorEntersJoining : Obligations.ValidDescriptorEntersJoining := by
  intro bytes raw s hs hread hraw
  have hinact := inactive_of_starting (readInProgress_iff.1 hread).1
  generalize hl : loadDescriptor raw s.control.strapReading = l
  obtain ⟨hj, -⟩ := joined_leaveStarting hs.eventOk hinact l
  have heq := leaveStarting_eq hs.eventOk hinact l
  have hexec : descriptorReadComplete bytes s = leaveStarting l s := by
    rw [descriptorReadComplete, if_pos hread, hraw, ← hl]
  obtain ⟨hd, hb, -⟩ := loadDescriptor_ok hraw s.control.strapReading
  have hfun := loadDescriptor_functions raw s.control.strapReading
  have hclamped := loadDescriptor_clamped raw s.control.strapReading
  generalize ht : leaveStarting l s = t at hj heq hexec
  have hlatched (k : Latch) : t.latched k = true ↔ s.latched k = true ∨ SetAtEntry l s k := by
    rw [hj.latched, enterJoining_eq]
    rfl
  have hother {k : Latch} (hk : ¬ SetAtEntry l s k) : t.latched k = s.latched k := by
    rw [Bool.eq_iff_iff, hlatched]
    simp [hk]
  have hconfig : t.config = l.descriptor := by rw [heq]; rfl
  have hband : t.band = l.band := by rw [heq]; rfl
  rw [hl] at hd hb hfun hclamped
  have hunit : t.control = joiningControl l s.control ∧ t.line = { s.line with
        silenceTimer := startSeconds l.descriptor.silenceTime } ∧ t.measure = { s.measure with
          functions := l.functions
          sampleTimer := startTenths l.descriptor.sampleTimeout
          inputs := watchedInputs l.descriptor s.measure.inputs } ∧ t.valve = joiningValve l.descriptor s.valve
      ∧ t.head = joiningHead l.descriptor s.head ∧ t.command = s.command := by
    rw [heq]
    exact ⟨rfl, rfl, rfl, rfl, rfl, rfl⟩
  obtain ⟨hcontrol, hline, hmeasure, hvalve, hhead, hcommand⟩ := hunit
  have hsettled : settle t = t := by
    obtain ⟨hdue, hwait⟩ := hs.settled
    exact settle_of_settled ⟨by rw [hcommand]; exact hdue, by rw [hline]; exact hwait⟩
  have hinputs (i : InputName) : t.measure.inputs.get i = watchedInput l.descriptor i (s.measure.inputs.get i) := by
    rw [hmeasure]
    exact watchedInputs_get _ _ i
  refine ⟨t, (congrArg (done ∘ settle) hexec).trans (congrArg done hsettled), ?_⟩
  rw [hconfig, hband]
  refine ⟨⟨by rw [← hl]; rfl, by rw [← hl]; rfl, ?_⟩, fun i f hf => ?_, fun i hf => ?_, ?_, hd, hb, hcontrol, hline,
    by rw [hmeasure]; rfl, by rw [hmeasure], by rw [hmeasure], ⟨fun i => ⟨fun hno => ?_, fun hyes hne => ?_, fun hyes hz => ?_⟩,
      ?_⟩, fun k hk => ?_, ?_, ?_, fun hr => ⟨?_, ?_⟩, fun hr => ⟨?_, ?_⟩, ?_, ?_⟩
  · rw [hlatched, ← hclamped]
    simp [SetAtEntry]
  · rw [hmeasure]
    exact (hfun i).trans (functionInForce_of_fitting hf).1
  · rw [hmeasure]
    exact (hfun i).trans (functionInForce_of_replaced ((functionReplaced_iff _ _).2 hf))
  · rw [Bool.eq_iff_iff, hlatched, Bool.or_eq_true]
    simp [SetAtEntry]
  · rw [hinputs, watchedInput, if_neg hno]
  · rw [hinputs, watchedInput, if_pos hyes, if_neg hne]
  · rw [hinputs, watchedInput, if_pos hyes, if_pos hz]
  · rw [hlatched]
    simp [SetAtEntry]
  · refine hother fun hset => ?_
    rcases hset with ⟨-, rfl⟩ | ⟨-, rfl⟩ | ⟨-, rfl⟩ <;> simp at hk
  · rw [hj.due]
    simp only [hj.urgent]
    rw [enterJoining_eq]
    rfl
  · rw [hj.sequence, enterJoining_eq]
  · rw [hvalve, joiningValve, if_pos hr]
    rfl
  · rw [hhead, joiningHead, if_neg (by simp [hr])]
  · rw [hhead, joiningHead, if_pos hr]
    rfl
  · rw [hvalve, joiningValve, if_neg (by simp [hr])]
  · rw [State.readyLine, hcontrol]
    rfl
  · rw [heq]
    simp [Unchanged]

end Sys2Proof.Machine
end

section
/-! The modes after start-up (spec/08): the first report and the due ALARM at the entry to RUNNING, the end of a hold, and
the output lines. -/

namespace Sys2Proof.Machine

variable {s : State}

/-! ### The end of a hold (R141) -/

theorem StationOk.waiting_reports (hs : StationOk s) : s.line.waiting.countP TxEntry.isReport ≤ 1 := by
  obtain ⟨-, htx, -⟩ := hs.eventOk.queues
  obtain ⟨-, hrep, -⟩ := htx
  exact (List.Sublist.countP_le (List.sublist_append_right _ _)).trans hrep

/-- Settles O14. -/
theorem holdTimerEndsHold : Obligations.HoldTimerEndsHold := by
  intro s hs
  obtain ⟨-, hhold, -⟩ := hs.eventOk.mode
  refine ⟨fun hm => ?_, fun hm => ?_⟩
  · have hrun : s.control.holdTimer.isRunning = true := by simpa [hm] using hhold
    have hset : LatchSet .holdExpired s.endHold (settle (setLatch .holdExpired s.endHold)) :=
      latchSet hs.settled hs.waiting_reports
    refine ⟨settle (holdTimerExpiry s), rfl, ?_, fun hno => ?_⟩
    · rw [holdTimerExpiry_of_running s hrun]
      exact hset
    · rw [holdTimerExpiry_of_running s hrun]
      obtain ⟨-, -, -, -, -, ⟨-, hcontrol, -⟩, -⟩ := hset.2 hno
      rw [State.readyLine, hcontrol (by decide)]
      rfl
  · exact hs.exec_self rfl (holdTimerExpiry_of_stopped s (by simpa [hm] using hhold))

/-! ### The entry to RUNNING (R45, R139, R149) -/

theorem setControl_config {c : StationControl} (h : c.descriptor = s.control.descriptor) :
    (s.setControl c).config = s.config := by
  simp [State.config, h]

/-- Settles O13: the queue is empty in JOINING, so each order of the offers, with an ALARM due or not, is computed through. -/
theorem joinTimerEntersRunning : Obligations.JoinTimerEntersRunning := by
  intro order s hs
  obtain ⟨hjoin, -⟩ := hs.eventOk.mode
  refine ⟨fun hm => ?_, fun hm => ?_⟩
  swap
  · exact hs.exec_self rfl (joinTimerExpiry_of_stopped s order (by simpa [hm] using hjoin))
  have hrun : s.control.joinTimer.isRunning = true := by simpa [hm] using hjoin
  have hquiet : s.speaking = false := by simp [State.speaking, Mode.speaking, hm]
  obtain ⟨hnone, hwait⟩ : s.line.inFlight = none ∧ s.line.waiting = [] := by
    simpa [LineUnit.txEntries] using hs.eventOk.queues.txRest hquiet
  have hrest : s.reports = .atReset := hs.eventOk.reports.2 hquiet
  have hdue := hs.settled.1
  have hcondition (h : s.condition.alarmDue = false) : s.condition = { s.condition with alarmDue := false } := by
    rw [← h]
  refine ⟨settle (joinTimerExpiry order s), rfl, ?_⟩
  cases order <;> cases hd : s.condition.alarmDue <;>
    simp [joinTimerExpiry, hrun, offerDueAlarm, hd, offerAlarm, queueReport, arbitrate, settle, hnone, hwait, hdue, hrest,
      LineUnit.txCount, LineUnit.txEntries, Config.txCapacity, setAlarmDue, enqueue, ReportScheduler.atReset,
      LineUnit.acceptsReport, LineUnit.holdsReport, nextEntry, takeFirst, TxEntry.isAlarm, TxEntry.isReport,
      TxEntry.isReply, drawHoldoff, LineQuiet, Unchanged, State.readyLine, Mode.speaking, startSeconds,
      startTenths, setControl_config]
  · exact hcondition hd
  · exact hcondition hd

/-! ### When a RESTART takes effect (R167) -/

/-- The reply of a RESTART waits in a full queue. -/
def MarkedWaits (s : State) : Prop := 6 ≤ s.line.txCount ∧ ∃ e ∈ s.line.waiting, e.marked = true

/-- No RESTART takes effect on the way from s to t but one whose reply waits in a full queue in s. -/
def RestartKept (s t : State) : Prop :=
  t.command.restartDue = true → s.command.restartDue = true ∨ MarkedWaits s

/-- What `RestartKept` reads of a state. -/
def State.replyValues (s : State) : Option TxEntry × List TxEntry × Bool :=
  (s.line.inFlight, s.line.waiting, s.command.restartDue)

theorem RestartKept.of_eq {t : State} (h : t.command.restartDue = s.command.restartDue) : RestartKept s t :=
  fun ht => .inl (h ▸ ht)

theorem RestartKept.refl (s : State) : RestartKept s s := .of_eq rfl

/-- Before an operation that keeps it, one that leaves the Transmit Queue and restart-due as they stand. -/
theorem RestartKept.after_same {t u : State} (h : RestartKept t u) (hs : t.replyValues = s.replyValues) :
    RestartKept s u := by
  simp only [State.replyValues, Prod.mk.injEq] at hs
  obtain ⟨hin, hwait, hdue⟩ := hs
  intro hu
  have := h hu
  simpa [MarkedWaits, LineUnit.txCount, LineUnit.txEntries, hin, hwait, hdue] using this

/-- After an operation that keeps it, one that leaves restart-due as it stands. -/
theorem RestartKept.then_eq {t u : State} (hu : u.command.restartDue = t.command.restartDue) (h : RestartKept s t) :
    RestartKept s u := fun h' => h (hu ▸ h')

theorem recomputeOffer_restartDue (s : State) : (recomputeOffer s).command.restartDue = s.command.restartDue := by simp

theorem offerAlarm_restartKept (s : State) : RestartKept s (offerAlarm s) := by
  unfold offerAlarm
  split
  · exact .of_eq rfl
  next hfull =>
    split
    · exact .of_eq rfl
    · split
      next e others hlast =>
        intro hdue
        rcases Bool.or_eq_true_iff.1 hdue with h | h
        · exact .inl h
        · exact .inr ⟨Nat.le_of_not_lt hfull, e, (takeLast_mem hlast).1, h⟩
      next => exact .refl s

/-- What the setting of a latch can do (R143, R148). -/
theorem setLatch_cases (l : Latch) (s : State) :
    setLatch l s = s ∨ setLatch l s = markLatch l s ∨ setLatch l s = setAlarmDue true (markLatch l s)
      ∨ s.line.holdsAlarm = false ∧ setLatch l s = offerAlarm (markLatch l s) := by
  have hspeaking (hl : s.latched l = false) (hu : s.urgent l = true) (hs : s.speaking = true) :
      setLatch l s = markLatch l s ∨ setLatch l s = setAlarmDue true (markLatch l s)
        ∨ s.line.holdsAlarm = false ∧ setLatch l s = offerAlarm (markLatch l s) := by
    rw [setLatch_of_urgent hl hu hs]
    cases s.line.absorbsAlarm with
    | true => exact .inl rfl
    | false =>
      cases s.line.holdsAlarm with
      | true => exact .inr (.inl rfl)
      | false => exact .inr (.inr ⟨rfl, rfl⟩)
  cases hl : s.latched l with
  | true => exact .inl (setLatch_of_latched hl)
  | false =>
    cases hu : s.urgent l with
    | false => exact .inr (.inl (setLatch_of_not_urgent hl hu))
    | true =>
      rcases speaking_or_joining_or_inactive s with hs | hj | ha
      · exact .inr (hspeaking hl hu hs)
      · exact .inr (.inr (.inl (setLatch_of_joining hl hu hj)))
      · exact .inr (.inl (setLatch_of_inactive hl ha))

theorem setLatch_restartKept (l : Latch) (s : State) : RestartKept s (setLatch l s) := by
  rcases setLatch_cases l s with h | h | h | ⟨-, h⟩ <;> rw [h]
  · exact .refl s
  · exact .of_eq rfl
  · exact .of_eq rfl
  · exact (offerAlarm_restartKept _).after_same rfl

/-- An offered reply that is not a RESTART's (R157, R165). -/
theorem offerReply_restartKept {r : Reply} (hr : r.restart = false) (s : State) : RestartKept s (offerReply r s) := by
  unfold offerReply
  split
  · exact .of_eq rfl
  · split
    · exact .of_eq rfl
    · rw [noteDeparture_of_unmarked (e := .reply r) hr]
      exact (setLatch_restartKept _ _).after_same rfl

theorem replyTo_restartKept (f : Frame) (body : List Group) (s : State) : RestartKept s (replyTo f false body s) := by
  unfold replyTo
  split
  · exact .refl s
  · exact offerReply_restartKept rfl s

theorem recogniseChange_restartKept (i : InputName) (s : State) : RestartKept s (recogniseChange i s) := by
  unfold recogniseChange
  dsimp only
  split
  · exact .then_eq (recomputeOffer_restartDue _) ((setLatch_restartKept _ _).after_same rfl)
  · exact .of_eq (by simp)

theorem rawChanged_restartKept (i : InputName) (s : State) : RestartKept s (rawChanged i s) := by
  unfold rawChanged
  dsimp only
  split
  · exact .of_eq rfl
  · split
    · exact recogniseChange_restartKept i s
    · exact .of_eq rfl
/-! ### Offers that displace no reply -/

/-- An ALARM offered where there is room, or a REPORT that can give way, displaces no reply (R157). -/
theorem offerAlarm_restartDue (h : s.line.txCount < 6 ∨ s.line.waiting.any TxEntry.isReport = true) :
    (offerAlarm s).command.restartDue = s.command.restartDue := by
  unfold offerAlarm
  split
  · rfl
  next hfull =>
    have hany : s.line.waiting.any TxEntry.isReport = true := h.resolve_left hfull
    split
    · rfl
    next hnone => exact absurd hany (by simp [takeFirst_eq_none.1 hnone])

/-- With an ALARM in the queue a latch offers none (R148). -/
theorem setLatch_restartDue_of_holdsAlarm (l : Latch) (h : s.line.holdsAlarm = true) :
    (setLatch l s).command.restartDue = s.command.restartDue := by
  rcases setLatch_cases l s with he | he | he | ⟨hno, -⟩
  · rw [he]
  · rw [he]
    rfl
  · rw [he]
    rfl
  · exact absurd (h.symm.trans hno) (by decide)

/-- A latch takes a RESTART's effect no further than the ALARM it offers does (R148). -/
theorem setLatch_restartDue_of_offerAlarm (l : Latch)
    (h : (offerAlarm (markLatch l s)).command.restartDue = s.command.restartDue) :
    (setLatch l s).command.restartDue = s.command.restartDue := by
  rcases setLatch_cases l s with he | he | he | ⟨-, he⟩ <;> rw [he]
  · rfl
  · rfl
  · exact h

theorem setLatch_restartDue (l : Latch) (h : s.line.txCount < 6 ∨ s.line.waiting.any TxEntry.isReport = true) :
    (setLatch l s).command.restartDue = s.command.restartDue :=
  setLatch_restartDue_of_offerAlarm l (offerAlarm_restartDue (s := markLatch l s) h)

/-- An offered ALARM stands in the queue afterwards, unless the offer leaves the queue as it is (R157). -/
theorem offerAlarm_line (s : State) : (offerAlarm s).line = s.line ∨ (offerAlarm s).line.holdsAlarm = true := by
  have hlast (others : List TxEntry) : ({ s.line with waiting := others ++ [.alarm none] } : LineUnit).holdsAlarm = true := by
    simp [LineUnit.holdsAlarm, LineUnit.txEntries, TxEntry.isAlarm]
  unfold offerAlarm
  split
  · exact .inr (hlast _)
  · split
    · exact .inr (hlast _)
    · split
      · exact .inr (hlast _)
      · exact .inl rfl

/-- A latch leaves the queue as it is, or an ALARM stands in it (R148). -/
theorem setLatch_line (l : Latch) (s : State) :
    (setLatch l s).line = s.line ∨ (setLatch l s).line.holdsAlarm = true := by
  rcases setLatch_cases l s with h | h | h | ⟨-, h⟩ <;> rw [h]
  · exact .inl rfl
  · exact .inl rfl
  · exact .inl rfl
  · exact offerAlarm_line (markLatch l s)

/-- With an ALARM in the queue an offered reply displaces no reply (R157). -/
theorem offerReply_restartDue_of_holdsAlarm {r : Reply} (hr : r.restart = false) (h : s.line.holdsAlarm = true) :
    (offerReply r s).command.restartDue = s.command.restartDue := by
  unfold offerReply
  split
  · rfl
  · split
    · rfl
    · rw [noteDeparture_of_unmarked (e := .reply r) hr]
      exact setLatch_restartDue_of_holdsAlarm (s := countReplyLost s) _ h

/-- The newest waiting reply, if it is no RESTART's, is the one an ALARM displaces, and no RESTART takes effect (R157). -/
theorem offerAlarm_restartDue_of_newest {older : List TxEntry} {r : Reply} (hr : r.restart = false)
    (hw : s.line.waiting = older ++ [.reply r]) : (offerAlarm s).command.restartDue = s.command.restartDue := by
  have hlast : takeLast TxEntry.isReply s.line.waiting = some (.reply r, older ++ []) := by
    rw [hw]
    exact takeLast_of_split rfl rfl
  unfold offerAlarm
  rw [hlast]
  split
  · rfl
  · split
    · rfl
    · simp [noteDeparture_of_unmarked (e := .reply r) hr]

theorem setLatch_restartDue_of_newest (l : Latch) {older : List TxEntry} {r : Reply} (hr : r.restart = false)
    (hw : s.line.waiting = older ++ [.reply r]) : (setLatch l s).command.restartDue = s.command.restartDue :=
  setLatch_restartDue_of_offerAlarm l (offerAlarm_restartDue_of_newest (s := markLatch l s) hr hw)

/-! ### Departures (R158, R167) -/

/-- The arbiter leaves a queue alone whose entry is in flight (R158). -/
theorem arbitrate_of_inFlight {e : TxEntry} (h : s.line.inFlight = some e) : arbitrate s = s := by
  simp [arbitrate, h]

theorem arbitrate_txCount (s : State) : (arbitrate s).line.txCount = s.line.txCount := (arbitrate_txEntries_perm s).length_eq

/-- Room for an ALARM, or a REPORT that can give way to it (R157). -/
abbrev AlarmPlaced (s : State) : Prop := s.line.txCount < 6 ∨ s.line.waiting.any TxEntry.isReport = true

theorem queueReport_alarmPlaced (h : s.line.txCount < 6) : AlarmPlaced (queueReport s) := by
  unfold queueReport
  split
  · exact .inr (by simp [enqueue, TxEntry.isReport])
  · exact .inl h

theorem queueReport_txCount_le (s : State) : (queueReport s).line.txCount ≤ s.line.txCount + 1 := by
  unfold queueReport
  split
  · simp [enqueue, LineUnit.txCount, LineUnit.txEntries, Nat.add_assoc]
  · exact Nat.le_succ _

/-- The same after two choices of the arbiter around the report (R158, log 7). -/
theorem arbitrate_queueReport_alarmPlaced (h : s.line.txCount < 6) :
    AlarmPlaced (arbitrate (queueReport (arbitrate s))) := by
  have hroom : (arbitrate s).line.txCount < 6 := (arbitrate_txCount s).symm ▸ h
  cases hin : (arbitrate s).line.inFlight with
  | some e =>
    have hin' : (queueReport (arbitrate s)).line.inFlight = some e := by simpa using hin
    rw [arbitrate_of_inFlight hin']
    exact queueReport_alarmPlaced hroom
  | none =>
    have hzero : (arbitrate s).line.txCount = 0 := by
      simp [LineUnit.txCount, LineUnit.txEntries, hin, waiting_eq_nil_of_arbitrate hin]
    have hle := queueReport_txCount_le (arbitrate s)
    exact .inl (by rw [arbitrate_txCount]; omega)

/-- What the departure of an entry makes the Condition Unit offer displaces no reply (R149, R157, R160). -/
theorem departureAlarm_restartDue (h : AlarmPlaced s) (abandoned : Bool) (e : TxEntry) :
    (departureAlarm abandoned e s).command.restartDue = s.command.restartDue := by
  have hdue : (if (e.isAlarm && s.speaking) = true then offerDueAlarm s else s).command.restartDue = s.command.restartDue
      ∧ ((if (e.isAlarm && s.speaking) = true then offerDueAlarm s else s).line = s.line
        ∨ (if (e.isAlarm && s.speaking) = true then offerDueAlarm s else s).line.holdsAlarm = true) := by
    unfold offerDueAlarm
    split
    · split
      · exact ⟨offerAlarm_restartDue (s := setAlarmDue false s) h, offerAlarm_line (setAlarmDue false s)⟩
      · exact ⟨rfl, .inl rfl⟩
    · exact ⟨rfl, .inl rfl⟩
  obtain ⟨hsame, hline⟩ := hdue
  unfold departureAlarm
  dsimp only
  split
  · refine Eq.trans ?_ hsame
    rcases hline with hl | hl
    · exact setLatch_restartDue _ (by rw [hl]; exact h)
    · exact setLatch_restartDue_of_holdsAlarm _ hl
  · exact hsame

/-- The departure of an entry brings a RESTART exactly if the entry is its reply (R167). -/
theorem depart_restartDue {e : TxEntry} (hin : s.line.inFlight = some e) (htx : s.line.txCount ≤ 6) (abandoned : Bool)
    (choice : ChoiceOrder) (order : OfferOrder) :
    (depart abandoned choice order s).command.restartDue = (s.command.restartDue || e.marked) := by
  have hroom : (noteDeparture e (clearInFlight s)).line.txCount < 6 := by
    simp only [LineUnit.txCount, LineUnit.txEntries, hin] at htx
    simp [LineUnit.txCount, LineUnit.txEntries, clearInFlight]
    simp at htx
    omega
  have hnote : (noteDeparture e (clearInFlight s)).command.restartDue = (s.command.restartDue || e.marked) := rfl
  unfold depart
  rw [hin, ← hnote]
  dsimp only
  generalize noteDeparture e (clearInFlight s) = v at hroom
  have hchosen : (arbitrate v).line.txCount < 6 := by rwa [arbitrate_txCount]
  split
  · simp [departureAlarm_restartDue (.inl hchosen)]
  · simp [departureAlarm_restartDue (arbitrate_queueReport_alarmPlaced hroom)]
  · simp [departureAlarm_restartDue (.inl hroom)]
  · simp [departureAlarm_restartDue (.inl hroom)]
  · simp [departureAlarm_restartDue (queueReport_alarmPlaced hroom)]
  · simp [departureAlarm_restartDue (queueReport_alarmPlaced hroom)]

theorem offerAlarm_txCount_le (h : s.line.txCount ≤ 6) : (offerAlarm s).line.txCount ≤ 6 := by
  have hexchange {others : List TxEntry} {e : TxEntry} (hp : s.line.waiting.Perm (e :: others)) :
      ({ s.line with waiting := others ++ [.alarm none] } : LineUnit).txCount ≤ 6 := by
    have hlen := hp.length_eq
    simp only [LineUnit.txCount, LineUnit.txEntries, List.length_append, List.length_cons] at h hlen ⊢
    simp only [List.length_nil]
    omega
  unfold offerAlarm
  split
  next hroom =>
    have : s.line.txCount < 6 := hroom
    simp only [LineUnit.txCount, LineUnit.txEntries, List.length_append] at this
    simp [enqueue, LineUnit.txCount, LineUnit.txEntries]
    omega
  · split
    next hreport => exact hexchange (takeFirst_perm hreport)
    next =>
      split
      next hreply => exact hexchange (takeLast_perm hreply)
      next => exact h

theorem setLatch_txCount_le (l : Latch) (h : s.line.txCount ≤ 6) : (setLatch l s).line.txCount ≤ 6 := by
  rcases setLatch_cases l s with he | he | he | ⟨-, he⟩ <;> rw [he]
  · exact h
  · exact h
  · exact h
  · exact offerAlarm_txCount_le (s := markLatch l s) h

/-- A RESTART takes effect in an event that ends an attempt if its reply departs, or waits in a full queue (R157, R167). -/
def RestartLeft (s u : State) : Prop :=
  u.command.restartDue = true →
    s.command.restartDue = true ∨ (∃ e, s.line.inFlight = some e ∧ e.marked = true) ∨ MarkedWaits s

theorem depart_restart (htx : s.line.txCount ≤ 6) {abandoned : Bool} {choice : ChoiceOrder} {order : OfferOrder}
    (h : (depart abandoned choice order s).command.restartDue = true) :
    s.command.restartDue = true ∨ ∃ e, s.line.inFlight = some e ∧ e.marked = true := by
  cases hin : s.line.inFlight with
  | none =>
    rw [depart, hin] at h
    exact .inl h
  | some e =>
    rw [depart_restartDue hin htx, Bool.or_eq_true] at h
    exact h.imp id fun he => ⟨e, rfl, he⟩

section

variable {u : State} (hu : u.replyValues = s.replyValues) (htx : s.line.txCount ≤ 6)
include hu htx

theorem depart_restartLeft (abandoned : Bool) (choice : ChoiceOrder) (order : OfferOrder) :
    RestartLeft s (depart abandoned choice order u) := by
  simp only [State.replyValues, Prod.mk.injEq] at hu
  obtain ⟨hin, hwait, hdue⟩ := hu
  have htx' : u.line.txCount ≤ 6 := by simpa [LineUnit.txCount, LineUnit.txEntries, hin, hwait] using htx
  intro hleft
  rcases depart_restart htx' hleft with h | ⟨e, he, hm⟩
  · exact .inl (hdue ▸ h)
  · exact .inr (.inl ⟨e, hin ▸ he, hm⟩)

theorem latch_depart_restartLeft (l : Latch) (abandoned : Bool) (choice : ChoiceOrder) (order : OfferOrder) :
    RestartLeft s (depart abandoned choice order (setLatch l u)) := by
  have hkept : RestartKept s (setLatch l u) := (setLatch_restartKept l u).after_same hu
  simp only [State.replyValues, Prod.mk.injEq] at hu
  obtain ⟨hin, hwait, -⟩ := hu
  have htx' : u.line.txCount ≤ 6 := by simpa [LineUnit.txCount, LineUnit.txEntries, hin, hwait] using htx
  intro hleft
  rcases depart_restart (setLatch_txCount_le l htx') hleft with h | ⟨e, he, hm⟩
  · exact (hkept h).imp id .inr
  · exact .inr (.inl ⟨e, by simpa [hin] using he, hm⟩)

end

theorem entrySent_restartLeft (htx : s.line.txCount ≤ 6) (choice : ChoiceOrder) (order : OfferOrder) :
    RestartLeft s (entrySent choice order s) := by
  unfold entrySent
  split
  · refine depart_restartLeft ?_ htx false choice order
    rfl
  · exact .inl

theorem jamEnd_restartLeft (htx : s.line.txCount ≤ 6) (choice : ChoiceOrder) (order : OfferOrder) :
    RestartLeft s (jamEnd choice order s) := by
  unfold jamEnd
  split
  · dsimp only
    split
    · exact .inl
    · cases choice with
      | choiceFirst =>
        refine depart_restartLeft ?_ htx true .choiceFirst order
        rfl
      | offersFirst =>
        refine depart_restartLeft ?_ htx true .offersFirst order
        rfl
      | latchFirst =>
        refine latch_depart_restartLeft ?_ htx .txAbandon false .latchFirst order
        rfl
  · exact .inl

/-! ### Commands and the reply of a RESTART (R157, R165, R167) -/

/-- A SHED at the Limit Unit sets SHED_RECEIVED or no latch (R79). -/
theorem takeShed_cases (threshold duration : Nat) (s : State) :
    (∃ b, takeShed threshold duration s = s.setLimit b)
      ∨ ∃ b, takeShed threshold duration s = setLatch .shedReceived (s.setLimit b) := by
  unfold takeShed
  split
  · exact .inl ⟨_, rfl⟩
  · split
    · exact .inr ⟨_, rfl⟩
    · exact .inl ⟨_, rfl⟩

theorem takeShed_restartKept (threshold duration : Nat) (s : State) : RestartKept s (takeShed threshold duration s) := by
  rcases takeShed_cases threshold duration s with ⟨b, h⟩ | ⟨b, h⟩ <;> rw [h]
  · exact .of_eq rfl
  · exact (setLatch_restartKept _ _).after_same rfl

/-- A SHED leaves the queue as it is, or an ALARM stands in it. -/
theorem takeShed_line (threshold duration : Nat) (s : State) :
    (takeShed threshold duration s).line = s.line ∨ (takeShed threshold duration s).line.holdsAlarm = true := by
  rcases takeShed_cases threshold duration s with ⟨b, h⟩ | ⟨b, h⟩ <;> rw [h]
  · exact .inl rfl
  · exact setLatch_line _ (s.setLimit b)

theorem takeShed_restartDue (threshold duration : Nat) (s : State)
    (h : ∀ b, (setLatch .shedReceived (s.setLimit b)).command.restartDue = s.command.restartDue) :
    (takeShed threshold duration s).command.restartDue = s.command.restartDue := by
  rcases takeShed_cases threshold duration s with ⟨b, he⟩ | ⟨b, he⟩ <;> rw [he]
  · rfl
  · exact h b

/-- What the offer of a reply leaves at the end of the queue, or in it (R157). -/
theorem offerReply_line (r : Reply) (s : State) :
    (∃ older, (offerReply r s).line.waiting = older ++ [.reply r])
      ∨ ((offerReply r s).line.waiting = s.line.waiting ∧ (offerReply r s).line.inFlight = s.line.inFlight)
      ∨ (offerReply r s).line.holdsAlarm = true := by
  unfold offerReply
  split
  · exact .inl ⟨s.line.waiting, rfl⟩
  · split
    next others _ => exact .inl ⟨others, rfl⟩
    next =>
      rcases setLatch_line .replyLost (countReplyLost s) with h | h
      · exact .inr (.inl ⟨by simp [h], by simp⟩)
      · exact .inr (.inr (by simpa using h))

theorem replyTo_line (f : Frame) (body : List Group) (s : State) :
    (∃ older r, r.restart = false ∧ (replyTo f false body s).line.waiting = older ++ [.reply r])
      ∨ ((replyTo f false body s).line.waiting = s.line.waiting ∧ (replyTo f false body s).line.inFlight = s.line.inFlight)
      ∨ (replyTo f false body s).line.holdsAlarm = true := by
  unfold replyTo
  split
  · exact .inr (.inl ⟨rfl, rfl⟩)
  · exact (offerReply_line _ s).imp (fun ⟨older, h⟩ => ⟨older, _, rfl, h⟩) id

theorem replyTo_inFlight (f : Frame) (restart : Bool) (body : List Group) (s : State) :
    (replyTo f restart body s).line.inFlight = s.line.inFlight := by
  unfold replyTo
  split <;> simp

theorem replyTo_txCount_of_empty (f : Frame) (body : List Group) (hin : s.line.inFlight = none)
    (hwait : s.line.waiting = []) : (replyTo f false body (countAccepted s)).line.txCount < 6 := by
  unfold replyTo offerReply
  split
  · simp [countAccepted, LineUnit.txCount, LineUnit.txEntries, hin, hwait]
  · simp [countAccepted, LineUnit.txCount, LineUnit.txEntries, hin, hwait, Config.txCapacity, enqueue]

/-- The first offer of an admitted SHED leaves no queue in which the second displaces another RESTART's reply (R79, R157). -/
theorem admitShed_restartKept (hs : s.line.inFlight = none → s.line.waiting = []) (order : OfferOrder) (f : Frame) :
    RestartKept s (admitShed order f s) := by
  unfold admitShed
  cases order with
  | alarmFirst =>
    dsimp only
    generalize hu : takeShed (shedThreshold f) (shedDuration f) s = u
    have hkept : RestartKept s u := hu ▸ takeShed_restartKept _ _ s
    have hline := takeShed_line (shedThreshold f) (shedDuration f) s
    rw [hu] at hline
    rcases hline with hline | hline
    · have hidle : arbitrate (countAccepted u) = countAccepted u :=
        arbitrate_of_settled (by simpa [countAccepted, hline] using hs)
      rw [hidle]
      intro hdue
      rcases replyTo_restartKept f _ (countAccepted u) hdue with h | h
      · exact hkept h
      · exact .inr (by simpa [MarkedWaits, countAccepted, hline] using h)
    · refine .then_eq (t := u) ?_ hkept
      unfold replyTo
      split
      · simp [countAccepted]
      · rw [offerReply_restartDue_of_holdsAlarm rfl (by simpa [countAccepted] using hline)]
        simp [countAccepted]
  | otherFirst =>
    dsimp only
    generalize hw : replyTo f false (acceptedBody .shed f (countAccepted s)) (countAccepted s) = w
    have hreply : RestartKept s w := by
      rw [← hw]
      exact (replyTo_restartKept f _ _).after_same rfl
    have hkept : RestartKept s (arbitrate w) := .then_eq (by simp) hreply
    cases hin : s.line.inFlight with
    | none =>
      have hroom : (arbitrate w).line.txCount < 6 := by
        rw [arbitrate_txCount, ← hw]
        exact replyTo_txCount_of_empty f _ hin (hs hin)
      exact .then_eq (takeShed_restartDue _ _ _ fun b =>
        setLatch_restartDue (s := (arbitrate w).setLimit b) _ (.inl hroom)) hkept
    | some e =>
      have hin' : w.line.inFlight = some e := by
        rw [← hw, replyTo_inFlight]
        exact hin
      rw [arbitrate_of_inFlight hin']
      rcases replyTo_line f (acceptedBody .shed f (countAccepted s)) (countAccepted s) with
        ⟨older, r, hr, hlast⟩ | ⟨hwait, -⟩ | hal
      · rw [hw] at hlast
        exact .then_eq (takeShed_restartDue _ _ _ fun b =>
          setLatch_restartDue_of_newest (s := w.setLimit b) _ hr hlast) hreply
      · rw [hw] at hwait
        intro hdue
        rcases takeShed_restartKept _ _ w hdue with h | h
        · exact hreply h
        · refine .inr ?_
          have hwait' : w.line.waiting = s.line.waiting := hwait
          simpa [MarkedWaits, LineUnit.txCount, LineUnit.txEntries, hwait', hin, hin'] using h
      · rw [hw] at hal
        exact .then_eq (takeShed_restartDue _ _ _ fun b =>
          setLatch_restartDue_of_holdsAlarm (s := w.setLimit b) _ hal) hreply

/-- What brings the reset of a RESTART in an event (R167). -/
def RestartCause (c : Instr) (s : State) : Prop :=
  ((∃ e, s.line.inFlight = some e ∧ e.marked = true) ∧ ∃ choice order, c = .entrySent choice order ∨ c = .jamEnd choice order)
    ∨ MarkedWaits s
    ∨ (c = .restart ∧ ∃ f rest, Admitted .restart f rest s ∧ DropsReply f s)

/-- A command whose admission brings no other RESTART. -/
theorem takeCommand_restartKept {kind : Kind} {admitted : Frame → State → State}
    (h : ∀ f rest, Admitted kind f rest s → RestartKept s (admitted f (s.withoutFront rest))) :
    RestartKept s (takeCommand kind admitted s) := by
  rcases takeCommand_cases kind admitted s with he | ⟨f, rest, -, he | he | he⟩ | ⟨f, rest, hadm, he⟩ <;> rw [he]
  · exact .refl s
  · exact .of_eq rfl
  · exact (setLatch_restartKept _ _).after_same rfl
  · exact (replyTo_restartKept _ _ _).after_same rfl
  · exact h f rest hadm

theorem admitCommand_restartKept {kind : Kind} (hk : kind ≠ .restart) {effect : Frame → State → State}
    (heffect : ∀ f u, (effect f u).replyValues = u.replyValues) :
    RestartKept s (takeCommand kind (admitCommand kind effect) s) := by
  refine takeCommand_restartKept fun f rest _ => ?_
  unfold admitCommand
  dsimp only
  rw [decide_eq_false hk]
  exact (replyTo_restartKept f _ _).after_same (heffect f (s.withoutFront rest))

theorem clearConditions_replyValues (mask : BitVec 24) (s : State) :
    (clearConditions mask s).replyValues = s.replyValues := by
  unfold clearConditions
  dsimp only
  split <;> rfl

theorem limitBlockEffect_replyValues (f : Frame) (s : State) : (limitBlockEffect f s).replyValues = s.replyValues := by
  unfold limitBlockEffect
  split <;> rfl

theorem releaseHold_replyValues (s : State) : (releaseHold s).replyValues = s.replyValues := by
  unfold releaseHold
  split <;> rfl

theorem noticeIf_replyValues (b : Bool) (s : State) : (noticeIf b s).replyValues = s.replyValues := by
  cases b
  · rfl
  · simp [noticeIf, State.replyValues]

theorem forgetEntry_replyValues (number : Nat) (s : State) : (forgetEntry number s).replyValues = s.replyValues := by
  unfold forgetEntry
  split
  · exact noticeIf_replyValues _ _
  · rfl

/-! ### The events between a reset and the end of an attempt -/

section Events

variable (s : State)

theorem RestartKept.of_replyValues {t : State} (h : t.replyValues = s.replyValues) : RestartKept s t :=
  .of_eq (congrArg (fun v => v.2.2) h)

theorem changeTrigger_restartKept : RestartKept s (changeTrigger s) := by
  unfold changeTrigger
  split
  · exact .of_eq (by simp)
  · exact .refl s

theorem valvePeriodExpiry_restartKept (order : GrantOrder) : RestartKept s (valvePeriodExpiry order s) := by
  have hanswer (t : State) : (answerPublication t).replyValues = t.replyValues := by
    unfold answerPublication
    split <;> rfl
  have htrigger (t : State) : (shareTrigger t).replyValues = t.replyValues := by simp [State.replyValues]
  have hpublish (t : State) : (publish order t).replyValues = t.replyValues := by
    cases order
    · exact hanswer t
    · rfl
    · exact htrigger t
  have hcompute (t : State) : (computeBeforeEnd order t).replyValues = t.replyValues := by
    cases order
    · rfl
    · exact hanswer t
    · rfl
  unfold valvePeriodExpiry
  split
  · exact (changeTrigger_restartKept _).after_same ((hcompute _).trans (hpublish (stagesOneToThree s)))
  · exact .refl s

theorem headPeriodExpiry_restartKept : RestartKept s (headPeriodExpiry s) := by
  have hchoice : (chooseCritical s).replyValues = s.replyValues := by
    unfold chooseCritical
    split <;> rfl
  unfold headPeriodExpiry
  split
  · exact (changeTrigger_restartKept _).after_same hchoice
  · exact .refl s

theorem ageTimerExpiry_restartKept (number : Nat) : RestartKept s (ageTimerExpiry number s) := by
  unfold ageTimerExpiry
  split
  · split
    · exact .of_replyValues s (noticeIf_replyValues _ _)
    · exact .refl s
  · exact .refl s

theorem placeReport_restartKept (number : Nat) (f : Frame) (b : ReportBody) : RestartKept s (placeReport number f b s) := by
  have haccept (e : PeerEntry) (count : Nat) : RestartKept s (acceptInto e count f b s) :=
    .of_replyValues s (noticeIf_replyValues _ _)
  have hcreate (es : List PeerEntry) : RestartKept s (createIn es number f b s) :=
    .of_replyValues s (noticeIf_replyValues _ _)
  unfold placeReport
  split
  · split
    · exact haccept _ _
    · split
      · exact haccept _ _
      · dsimp only
        split
        · exact .of_eq rfl
        · split
          · exact haccept _ _
          · exact .of_eq rfl
  · split
    · exact hcreate _
    · split
      · exact hcreate _
      · exact (setLatch_restartKept _ _).after_same rfl

theorem takeStationReport_restartKept : RestartKept s (takeStationReport s) := by
  have htake (f : Frame) (t : State) : RestartKept t (takeReport f t) := by
    unfold takeReport
    dsimp only
    split
    · exact setLatch_restartKept _ t
    · split
      · exact .refl t
      · split
        · exact placeReport_restartKept t _ f _
        · exact .refl t
  unfold takeStationReport
  split
  next hf =>
    obtain ⟨rest, -, -, -, rfl⟩ := takeFront_eq_some hf
    exact (htake _ _).after_same rfl
  next => exact .refl s

theorem takeAlarmFrame_restartKept : RestartKept s (takeAlarmFrame s) := by
  have htake (f : Frame) (t : State) : RestartKept t (takeAlarm f t) := by
    unfold takeAlarm
    dsimp only
    split
    · exact setLatch_restartKept _ t
    · split <;> exact .of_eq rfl
  unfold takeAlarmFrame
  split
  next hf =>
    obtain ⟨rest, -, -, -, rfl⟩ := takeFront_eq_some hf
    exact (htake _ _).after_same rfl
  next => exact .refl s

theorem blockTimerExpiry_restartKept : RestartKept s (blockTimerExpiry s) := by
  unfold blockTimerExpiry
  split
  · split
    · split
      · exact .of_eq rfl
      · dsimp only
        split
        · exact (setLatch_restartKept _ _).after_same rfl
        · exact .of_eq rfl
    · exact .refl s
    · exact .refl s
  · exact .refl s

theorem shedTimerExpiry_restartKept : RestartKept s (shedTimerExpiry s) := by
  unfold shedTimerExpiry
  (repeat' split) <;> exact .of_eq rfl

theorem reportTimers_restartKept : RestartKept s (reportIntervalExpiry s) ∧ RestartKept s (spacingTimerExpiry s) := by
  constructor
  · unfold reportIntervalExpiry
    (repeat' split) <;> exact .of_eq (by simp [setIntervalTimer])
  · unfold spacingTimerExpiry
    split <;> exact .of_eq (by simp)

theorem sampleRecord_restartKept (characters : List Byte) : RestartKept s (sampleRecord characters s) := by
  unfold sampleRecord
  split <;> exact .of_eq (by simp [acceptRecord])

theorem sampleTimerExpiry_restartKept : RestartKept s (sampleTimerExpiry s) := by
  unfold sampleTimerExpiry
  split
  · exact (setLatch_restartKept _ _).after_same rfl
  · exact .refl s

theorem fieldHoldTimerExpiry_restartKept (n : FieldName) : RestartKept s (fieldHoldTimerExpiry n s) := by
  unfold fieldHoldTimerExpiry
  split
  · refine (setLatch_restartKept _ _).after_same ?_
    split <;> simp [State.replyValues]
  · exact .refl s

theorem rawLevelChange_restartKept (i : InputName) (level : Level) : RestartKept s (rawLevelChange i level s) := by
  unfold rawLevelChange
  dsimp only
  split
  · exact .refl s
  · split
    · exact (rawChanged_restartKept i _).after_same rfl
    · exact .of_eq rfl

theorem debounceTimerExpiry_restartKept (i : InputName) : RestartKept s (debounceTimerExpiry i s) := by
  unfold debounceTimerExpiry
  split
  · exact recogniseChange_restartKept i s
  · exact .refl s

theorem countCorrected_replyValues (corrected : Bool) : (countCorrected corrected s).replyValues = s.replyValues := by
  cases corrected <;> rfl

theorem discardFrame_restartKept : RestartKept s (discardFrame s) := (setLatch_restartKept _ _).after_same rfl

theorem receiveFrame_restartKept (f : Frame) : RestartKept s (receiveFrame f s) := by
  have hoffer (t : State) : RestartKept t (offerFrame f t) := by
    unfold offerFrame
    split
    · exact .of_eq rfl
    · exact (setLatch_restartKept _ _).after_same rfl
  unfold receiveFrame
  dsimp only
  split
  · exact .of_eq rfl
  · split
    · exact .of_eq rfl
    · split
      · exact .of_eq rfl
      · exact (hoffer _).after_same rfl

theorem frameReceived_restartKept (raw : RawGroup) : RestartKept s (frameReceived raw s) := by
  unfold frameReceived
  split
  · split
    · exact (receiveFrame_restartKept _ _).after_same (countCorrected_replyValues s _)
    · exact .refl s
    · exact .refl s
    · exact .refl s
  · exact .refl s

theorem frameDiscarded_restartKept (raw : RawGroup) : RestartKept s (frameDiscarded raw s) := by
  unfold frameDiscarded
  split
  · split
    · exact (discardFrame_restartKept _).after_same (countCorrected_replyValues s _)
    · exact .refl s
    · exact .refl s
    · exact .refl s
  · exact .refl s

theorem groupComplete_restartKept (raw : RawGroup) : RestartKept s (groupComplete raw s) := by
  unfold groupComplete
  split
  · split
    · exact .of_replyValues s (countCorrected_replyValues _ _)
    · exact .refl s
    · exact .refl s
    · exact .refl s
  · exact .refl s

theorem lineIdle_restartKept : RestartKept s (lineIdle s) := by
  unfold lineIdle
  split
  · dsimp only
    split
    · exact .then_eq (t := discardFrame s) rfl (discardFrame_restartKept s)
    · exact .of_eq rfl
  · exact .refl s

theorem breakDetected_restartKept (fromOwnJam : Bool) : RestartKept s (breakDetected fromOwnJam s) := by
  unfold breakDetected
  split <;> exact .of_eq rfl

theorem startBitHeard_restartKept : RestartKept s (startBitHeard s) := by
  unfold startBitHeard
  split <;> exact .of_eq rfl

theorem markerReceived_restartKept (character : Byte) : RestartKept s (markerReceived character s) := by
  unfold markerReceived
  split <;> exact .of_eq rfl

theorem collision_restartKept : RestartKept s (collision s) := by
  unfold collision
  split <;> exact .of_eq rfl

theorem silenceTimerExpiry_restartKept : RestartKept s (silenceTimerExpiry s) := by
  unfold silenceTimerExpiry
  split <;> exact .of_eq rfl

theorem attemptStart_restartKept : RestartKept s (attemptStart s) := by
  unfold attemptStart startAttempt
  (repeat' split) <;> exact .of_eq rfl

theorem holdTimerExpiry_restartKept : RestartKept s (holdTimerExpiry s) := by
  cases hrun : s.control.holdTimer.isRunning with
  | true =>
    rw [holdTimerExpiry_of_running s hrun]
    exact (setLatch_restartKept _ _).after_same rfl
  | false =>
    rw [holdTimerExpiry_of_stopped s hrun]
    exact .refl s

theorem resetPinRelease_restartKept (pins : StrapPins) : RestartKept s (resetPinRelease pins s) := by
  unfold resetPinRelease
  split <;> exact .of_eq rfl

theorem safeRecordTimerExpiry_restartKept : RestartKept s (safeRecordTimerExpiry s) := by
  unfold safeRecordTimerExpiry
  split <;> exact .of_eq rfl

theorem shareComputation_restartKept : RestartKept s (shareComputation s) := by
  unfold shareComputation
  split <;> exact .of_eq rfl

end Events

section SafeEvents

variable (hs : StationOk s)
include hs

theorem descriptorReadComplete_restartKept (bytes : List Byte) : RestartKept s (descriptorReadComplete bytes s) := by
  unfold descriptorReadComplete
  split
  next hread =>
    split
    next raw _ =>
      obtain ⟨hj, -⟩ := joined_leaveStarting hs.eventOk (inactive_of_starting (readInProgress_iff.1 hread).1)
        (loadDescriptor raw s.control.strapReading)
      refine .of_eq ?_
      rw [hj.same, enterJoining_eq]
      rfl
    next => exact .of_eq rfl
  next => exact .refl s

/-- The entry to RUNNING resets nothing (R139). -/
theorem joinTimerExpiry_restartDue (order : OfferOrder) (hm : s.control.mode = .joining) :
    (joinTimerExpiry order s).command.restartDue = false := by
  obtain ⟨t, ht, hcontrol, -⟩ := (joinTimerEntersRunning order s hs).1 hm
  obtain rfl : settle (joinTimerExpiry order s) = t :=
    Host.Outcome.next.inj ((hs.exec_event (.joinTimerExpiry order)).symm.trans ht)
  cases hdue : (joinTimerExpiry order s).command.restartDue with
  | false => rfl
  | true =>
    rw [settle_of_restartDue hdue] at hcontrol
    exact absurd (congrArg (·.mode) hcontrol) (by simp [restartReset, resetBlocks, StationControl.atReset, State.setControl])

theorem joinTimerExpiry_restartKept (order : OfferOrder) : RestartKept s (joinTimerExpiry order s) := by
  obtain ⟨hjoin, -⟩ := hs.eventOk.mode
  by_cases hm : s.control.mode = .joining
  · intro hdue
    exact absurd (hdue.symm.trans (joinTimerExpiry_restartDue hs order hm)) (by decide)
  · rw [joinTimerExpiry_of_stopped s order (by simpa [hm] using hjoin)]
    exact .refl s

/-- A RESTART brings its own reset only where its reply finds no place (R165, R167). -/
theorem restart_restartCause (hdue : (takeCommand .restart (admitCommand .restart noEffect) s).command.restartDue = true) :
    RestartCause .restart s := by
  have hrest := hs.settled.1
  have hmark (h : RestartKept s (takeCommand .restart (admitCommand .restart noEffect) s)) : RestartCause .restart s :=
    .inr (.inl ((h hdue).resolve_left (by simp [hrest])))
  rcases takeCommand_cases .restart (admitCommand .restart noEffect) s with
    he | ⟨f, rest, -, he | he | he⟩ | ⟨f, rest, hadm, he⟩
  · exact hmark (.of_eq (congrArg (·.command.restartDue) he))
  · exact hmark (he ▸ .of_eq rfl)
  · exact hmark (he ▸ (setLatch_restartKept _ _).after_same rfl)
  · exact hmark (he ▸ (replyTo_restartKept _ _ _).after_same rfl)
  · by_cases hdrop : DropsReply f s
    · exact .inr (.inr ⟨rfl, f, rest, hadm, hdrop⟩)
    · have hsame (r : Reply) (hd : f.destination ≠ 255#8) :
          (offerReply r (countAccepted (s.withoutFront rest))).command.restartDue = s.command.restartDue := by
        unfold offerReply
        split
        · rfl
        next hfull =>
          split
          · rfl
          next hnone =>
            have hno : s.line.waiting.any TxEntry.isReport = false := by
              simpa [countAccepted, State.withoutFront] using takeFirst_eq_none.1 hnone
            exact absurd ⟨hd, Nat.le_of_not_lt hfull, hno⟩ hdrop
      refine hmark (he ▸ .of_eq ?_)
      unfold admitCommand replyTo
      dsimp only
      split
      · rfl
      next hd => exact hsame _ hd

end SafeEvents

/-- A clear, before or after its own reply (R146). -/
theorem admitClear_restartKept (f : Frame) (s : State) : RestartKept s (admitClear f s) := by
  unfold admitClear
  split
  · exact (replyTo_restartKept f _ _).after_same (clearConditions_replyValues _ s)
  · refine .then_eq (t := admitCommand .clearConditions noEffect f s) ?_ ((replyTo_restartKept f _ _).after_same rfl)
    exact congrArg (fun v => v.2.2) (clearConditions_replyValues _ _)

/-- What brings a RESTART's reset in any event (R167). -/
theorem event_restartCause (hs : StationOk s) (c : Instr) (hdue : (eventOf c s).command.restartDue = true) :
    RestartCause c s := by
  obtain ⟨hrest, hidle⟩ := hs.settled
  have hmark (h : RestartKept s (eventOf c s)) : RestartCause c s :=
    .inr (.inl ((h hdue).resolve_left (by simp [hrest])))
  have htx : s.line.txCount ≤ 6 := hs.eventOk.queues.tx.1
  have hleft (h : RestartLeft s (eventOf c s)) (hc : ∃ choice order, c = .entrySent choice order ∨ c = .jamEnd choice order) :
      RestartCause c s := by
    rcases h hdue with h | h | h
    · exact absurd h (by simp [hrest])
    · exact .inl ⟨h, hc⟩
    · exact .inr (.inl h)
  cases c with
  | resetPinAssert => exact absurd hdue (by simp [eventOf, resetPinAssert, resetBlocks, CommandHandler.atReset])
  | resetPinRelease pins => exact hmark (resetPinRelease_restartKept s pins)
  | descriptorReadComplete bytes => exact hmark (descriptorReadComplete_restartKept hs bytes)
  | joinTimerExpiry order => exact hmark (joinTimerExpiry_restartKept hs order)
  | holdTimerExpiry => exact hmark (holdTimerExpiry_restartKept s)
  | hold => exact hmark (admitCommand_restartKept (by decide) fun f u => rfl)
  | release => exact hmark (admitCommand_restartKept (by decide) fun f u => releaseHold_replyValues u)
  | clearConditions =>
    exact hmark (takeCommand_restartKept fun f rest _ => (admitClear_restartKept f (s.withoutFront rest)).after_same rfl)
  | sampleRecordBroken => exact hmark (.refl s)
  | safeRecordTimerExpiry => exact hmark (safeRecordTimerExpiry_restartKept s)
  | valveLoopControlPeriodExpiry order => exact hmark (valvePeriodExpiry_restartKept s order)
  | headControlPeriodExpiry => exact hmark (headPeriodExpiry_restartKept s)
  | shareComputation => exact hmark (shareComputation_restartKept s)
  | ageTimerExpiry number => exact hmark (ageTimerExpiry_restartKept s number)
  | takeStationReport => exact hmark (takeStationReport_restartKept s)
  | takeAlarmFrame => exact hmark (takeAlarmFrame_restartKept s)
  | limitBlock => exact hmark (admitCommand_restartKept (by decide) fun f u => limitBlockEffect_replyValues f u)
  | limitCancel => exact hmark (admitCommand_restartKept (by decide) fun f u => rfl)
  | shed order =>
    exact hmark (takeCommand_restartKept fun f rest _ => (admitShed_restartKept (s := s.withoutFront rest) hidle order f).after_same rfl)
  | forget => exact hmark (admitCommand_restartKept (by decide) fun f u => forgetEntry_replyValues _ u)
  | restart => exact restart_restartCause hs hdue
  | readView => exact hmark (admitCommand_restartKept (by decide) fun f u => rfl)
  | readCounters => exact hmark (admitCommand_restartKept (by decide) fun f u => rfl)
  | blockTimerExpiry => exact hmark (blockTimerExpiry_restartKept s)
  | shedTimerExpiry => exact hmark (shedTimerExpiry_restartKept s)
  | reportIntervalExpiry => exact hmark (reportTimers_restartKept s).1
  | spacingTimerExpiry => exact hmark (reportTimers_restartKept s).2
  | sampleRecord characters => exact hmark (sampleRecord_restartKept s characters)
  | sampleTimerExpiry => exact hmark (sampleTimerExpiry_restartKept s)
  | fieldHoldTimerExpiry field => exact hmark (fieldHoldTimerExpiry_restartKept s field)
  | rawLevelChange input level => exact hmark (rawLevelChange_restartKept s input level)
  | debounceTimerExpiry input => exact hmark (debounceTimerExpiry_restartKept s input)
  | frameReceived group => exact hmark (frameReceived_restartKept s group)
  | frameDiscarded group => exact hmark (frameDiscarded_restartKept s group)
  | lineIdle => exact hmark (lineIdle_restartKept s)
  | groupComplete group => exact hmark (groupComplete_restartKept s group)
  | silenceTimerExpiry => exact hmark (silenceTimerExpiry_restartKept s)
  | breakDetected fromOwnJam => exact hmark (breakDetected_restartKept s fromOwnJam)
  | startBitHeard => exact hmark (startBitHeard_restartKept s)
  | attemptStart => exact hmark (attemptStart_restartKept s)
  | collision => exact hmark (collision_restartKept s)
  | markerReceived character => exact hmark (markerReceived_restartKept s character)
  | jamEnd choice order => exact hleft (jamEnd_restartLeft htx choice order) ⟨choice, order, .inr rfl⟩
  | entrySent choice order => exact hleft (entrySent_restartLeft htx choice order) ⟨choice, order, .inl rfl⟩

/-! ### The mode (R138 to R141, R167, R168) -/

/-- The station with the pins as the event's own level change leaves them. -/
def State.levelled (s : State) : Instr → State
  | .rawLevelChange i level => s.withRaw i level
  | _ => s

/-- u stands as t where the reset of a RESTART leaves the station standing (R168). -/
def Outlived (t u : State) : Prop :=
  u.control.strapSamples = t.control.strapSamples
    ∧ u.measure.inputs.mapEach (fun v => v.raw) = t.measure.inputs.mapEach (fun v => v.raw)

theorem Carried.outlived {t u v : State} (h : Carried t u) (ht : Outlived v t) : Outlived v u :=
  ⟨(congrArg (·.strapSamples) h.control).trans ht.1, h.raws.trans ht.2⟩

theorem Moved.outlived {c : Instr} {u : State} (h : Moved s c u) (hc : ∀ i level, c ≠ .rawLevelChange i level) :
    Outlived s u := by
  cases h with
  | assert => exact ⟨rfl, rfl⟩
  | release pins =>
    unfold resetPinRelease
    split <;> exact ⟨rfl, rfl⟩
  | idle c hu => exact hu.outlived ⟨rfl, rfl⟩
  | unconfigured bytes _ => exact ⟨rfl, rfl⟩
  | joining bytes l _ hu => exact hu.outlived (by rw [enterJoining_eq]; exact ⟨rfl, rfl⟩)
  | running order _ hu => exact hu.outlived ⟨rfl, rfl⟩
  | expired _ hu => exact hu.outlived ⟨rfl, rfl⟩
  | hold duration _ hu => exact hu.outlived ⟨rfl, rfl⟩
  | released _ hu => exact hu.outlived ⟨rfl, rfl⟩
  | level i level hu => exact absurd rfl (hc i level)
  | cleared mask _ hu =>
    obtain ⟨-, hcontrol, -, hraws⟩ := clearConditions_values mask s
    exact hu.outlived ⟨by rw [hcontrol], hraws⟩

theorem event_outlived (c : Instr) (s : State) : Outlived (s.levelled c) (eventOf c s) := by
  by_cases hc : ∃ i level, c = .rawLevelChange i level
  · obtain ⟨i, level, rfl⟩ := hc
    exact (rawLevelChange_carried s i level).outlived ⟨rfl, rfl⟩
  · push Not at hc
    have hsame : s.levelled c = s := by
      unfold State.levelled
      split
      · exact absurd rfl (hc _ _)
      · rfl
    rw [hsame]
    exact (event_moved c s).outlived hc

@[simp] theorem levelled_pending (s : State) (c : Instr) : (s.levelled c).pending = s.pending := by
  unfold State.levelled
  split <;> rfl

theorem restarted_of_outlived {u t : State} (h : Outlived t u) (hp : u.pending = t.pending) :
    Restarted t (restartReset u) := by
  obtain ⟨hc, hr⟩ := h
  simp [Restarted, restartReset, resetBlocks, readRequest, State.setControl, hc, hr, hp]

theorem speaking_iff : s.speaking = true ↔ s.control.mode = .running ∨ s.control.mode = .hold := by
  unfold State.speaking Mode.speaking
  cases s.control.mode <;> simp

/-- Up to its end, an event moves the mode as the table of modes says (R138 to R141, R170, R173). -/
theorem Moved.mode {c : Instr} {u : State} (h : Moved s c u) (hm : ModeHeld s) (hmoved : u.control.mode ≠ s.control.mode) :
    (u.control.mode = .starting ∧ c = .resetPinAssert)
      ∨ (s.control.mode = .starting ∧ (∃ bytes, c = .descriptorReadComplete bytes)
          ∧ (u.control.mode = .unconfigured ∨ u.control.mode = .joining))
      ∨ (s.control.mode = .joining ∧ u.control.mode = .running ∧ ∃ order, c = .joinTimerExpiry order)
      ∨ (s.control.mode = .running ∧ u.control.mode = .hold ∧ c = .hold)
      ∨ (s.control.mode = .hold ∧ u.control.mode = .running ∧ (c = .release ∨ c = .holdTimerExpiry)) := by
  obtain ⟨hjoin, hhold, -⟩ := hm
  cases h with
  | assert => exact .inl ⟨rfl, rfl⟩
  | release pins =>
    refine absurd ?_ hmoved
    unfold resetPinRelease
    split <;> rfl
  | idle c hu => exact absurd (by rw [hu.control]) hmoved
  | unconfigured bytes hread =>
    exact .inr (.inl ⟨(readInProgress_iff.1 hread).1, ⟨bytes, rfl⟩, .inl rfl⟩)
  | joining bytes l hread hu =>
    refine .inr (.inl ⟨(readInProgress_iff.1 hread).1, ⟨bytes, rfl⟩, .inr ?_⟩)
    rw [hu.control, enterJoining_eq]
    rfl
  | running order hrun hu =>
    refine .inr (.inr (.inl ⟨by simpa [hrun] using hjoin, ?_, order, rfl⟩))
    rw [hu.control]
    rfl
  | expired hrun hu =>
    refine .inr (.inr (.inr (.inr ⟨by simpa [hrun] using hhold, ?_, .inr rfl⟩)))
    rw [hu.control]
    rfl
  | hold duration hspeak hu =>
    have hmode : u.control.mode = .hold := by
      rw [hu.control]
      rfl
    have hrunning : s.control.mode = .running := (speaking_iff.1 hspeak).resolve_right fun h => hmoved (hmode.trans h.symm)
    exact .inr (.inr (.inr (.inl ⟨hrunning, hmode, rfl⟩)))
  | released hm hu =>
    refine .inr (.inr (.inr (.inr ⟨hm, ?_, .inl rfl⟩)))
    rw [hu.control]
    rfl
  | level i level hu => exact absurd (by rw [hu.control]; rfl) hmoved
  | cleared mask _ hu => exact absurd (by rw [hu.control, (clearConditions_values mask s).2.1]) hmoved

/-- Settles O15: up to its end an event moves the mode by its own rule, and its end keeps the mode or is the reset of a
RESTART. -/
theorem modeMovesOnlyByItsEvents : Obligations.ModeMovesOnlyByItsEvents := by
  intro c s t ht hs hmoved
  obtain rfl : settle (eventOf c s) = t := Host.Outcome.next.inj ((hs.exec_event c).symm.trans ht)
  rcases settle_cases (eventOf c s) with hkept | ⟨hdue, hreset⟩
  · rw [hkept.control] at hmoved ⊢
    rcases (event_moved c s).mode hs.eventOk.mode hmoved with h | h
    · exact .inl h
    · exact .inr (.inr h)
  · have hrestarted : Restarted (s.levelled c) (settle (eventOf c s)) := by
      rw [hreset]
      exact restarted_of_outlived (event_outlived c s) ((event_moved c s).pending.trans (levelled_pending s c).symm)
    have hmode : (settle (eventOf c s)).control.mode = .starting := by rw [hreset]; rfl
    refine .inr (.inl ⟨hmode, hrestarted, ?_⟩)
    have htx : s.line.txCount ≤ 6 := hs.eventOk.queues.tx.1
    exact (event_restartCause hs c hdue).imp id (.imp (fun ⟨hfull, hwaits⟩ => ⟨Nat.le_antisymm htx hfull, hwaits⟩) id)

/-! ### The output lines (R142, R144, R145, R147) -/

/-- Bits 0 to 13 are the latches (R144, R177). -/
theorem conditionWord_latch (s : State) {k : Nat} (hk : k < 14) :
    s.conditionWord.getLsbD k = s.condition.latches.getLsbD k :=
  BitVec.getLsbD_append.trans (if_pos hk)

/-- Bits 14 to 21 are the live conditions (R144, R177). -/
theorem conditionWord_live (s : State) (k : Nat) :
    s.conditionWord.getLsbD (14 + k) = s.liveConditions.getLsbD k :=
  BitVec.getLsbD_append.trans (by simp)

theorem getLsbD_append_bit_zero {w : Nat} (x : BitVec w) (b : Bool) : (x ++ bit b).getLsbD 0 = b :=
  BitVec.getLsbD_append.trans (by simp [bit])

theorem getLsbD_append_bit_succ {w : Nat} (x : BitVec w) (b : Bool) (k : Nat) :
    (x ++ bit b).getLsbD (k + 1) = x.getLsbD k :=
  BitVec.getLsbD_append.trans (by simp)

theorem liveConditions_bits (s : State) :
    s.liveConditions.getLsbD 0 = s.line.isolated ∧ s.liveConditions.getLsbD 1 = s.liveFailsafe
      ∧ s.liveConditions.getLsbD 2 = s.liveCurtailed ∧ s.liveConditions.getLsbD 3 = s.liveNoOffer
      ∧ s.liveConditions.getLsbD 4 = s.liveShed ∧ s.liveConditions.getLsbD 5 = s.liveDtLimit
      ∧ s.liveConditions.getLsbD 6 = s.liveLocal ∧ s.liveConditions.getLsbD 7 = s.liveHold := by
  unfold State.liveConditions
  simp only [getLsbD_append_bit_zero, getLsbD_append_bit_succ]
  simp [bit]

/-- The k-th latch of the list stands in bit k of the latches and of the urgent mask (R144, R177). -/
theorem latch_index_of_list {k : Nat} {l : Latch}
    (h : [Latch.rxOverrun, .damagedSeen, .txAbandon, .replyLost, .tableFull, .numberClash, .sampleMissing,
      .fieldAbsent, .profileGap, .inputChange, .holdExpired, .restarted, .descriptorClamped, .shedReceived][k]? = some l) :
    l.index = k := by
  have hk : k < 14 := (List.getElem?_eq_some_iff.1 h).1
  interval_cases k <;> (cases h; rfl)

/-- A word and a mask that share a flag (R147). -/
theorem masked_ne_zero_iff (word : BitVec 22) (mask : BitVec 24) :
    word &&& mask.extractLsb' 0 22 ≠ 0#22 ↔ ∃ k, k < 22 ∧ word.getLsbD k = true ∧ mask.getLsbD k = true := by
  constructor
  · intro h
    by_contra hno
    push Not at hno
    refine h (BitVec.eq_of_getLsbD_eq fun k hk => ?_)
    cases hw : word.getLsbD k with
    | false => simp [hw]
    | true =>
      have hm : mask.getLsbD k = false := by simpa using hno k hk hw
      simp [hm]
  · rintro ⟨k, hk, hw, hm⟩ h0
    have hbit : (word &&& mask.extractLsb' 0 22).getLsbD k = (0#22).getLsbD k := by rw [h0]
    rw [BitVec.getLsbD_and, hw] at hbit
    simp [hk, hm] at hbit

theorem alarmLine_of_active (h : s.active = true) :
    s.alarmLine = true ↔ ∃ k, k < 22 ∧ s.conditionWord.getLsbD k = true ∧ s.config.alarmMask.getLsbD k = true := by
  rw [← masked_ne_zero_iff]
  unfold State.active Mode.active at h
  unfold State.alarmLine
  cases hm : s.control.mode <;> simp_all

theorem readyLine_iff : s.readyLine = true ↔ s.control.mode = .running ∨ s.control.mode = .hold := speaking_iff

/-- READY rises only at the join timer's expiry, and falls only in a reset (R142). -/
theorem readyLine_moves {c : Instr} {s t : State} (hs : StationOk s) (ht : exec c s = .next t) :
    (s.readyLine = false → t.readyLine = true → s.control.mode = .joining ∧ ∃ order, c = .joinTimerExpiry order)
      ∧ (s.readyLine = true → t.readyLine = false → t.control.mode = .starting) := by
  have hmoves := modeMovesOnlyByItsEvents c s t ht hs
  have hoff {u : State} : u.readyLine = false ↔ ¬(u.control.mode = .running ∨ u.control.mode = .hold) := by
    rw [← readyLine_iff, Bool.not_eq_true]
  constructor
  · intro hs' ht'
    rw [hoff] at hs'
    rw [readyLine_iff] at ht'
    have hne : t.control.mode ≠ s.control.mode := fun h => hs' (h ▸ ht')
    rcases hmoves hne with h | h | h | h | h | h
    · simp [h.1] at ht'
    · simp [h.1] at ht'
    · obtain ⟨-, -, h | h⟩ := h <;> simp [h] at ht'
    · exact ⟨h.1, h.2.2⟩
    · exact absurd (.inl h.1) hs'
    · exact absurd (.inr h.1) hs'
  · intro hs' ht'
    rw [hoff] at ht'
    rw [readyLine_iff] at hs'
    have hne : t.control.mode ≠ s.control.mode := fun h => ht' (h ▸ hs')
    rcases hmoves hne with h | h | h | h | h | h
    · exact h.1
    · exact h.1
    · simp [h.1] at hs'
    · simp [h.1] at hs'
    · exact absurd (.inr h.2.1) ht'
    · exact absurd (.inl h.2.1) ht'

/-- Settles O12. -/
theorem outputLinesFollowMode : Obligations.OutputLinesFollowMode := by
  refine ⟨rfl, rfl, fun s => ?_, fun c s t hs ht => ?_⟩
  · obtain ⟨h14, h15, h16, h17, h18, h19, h20, h21⟩ := liveConditions_bits s
    have hplant (hp : s.isPlant = true) : s.liveFailsafe = false ∧ s.liveCurtailed = false ∧ s.liveNoOffer = false
        ∧ s.liveShed = false ∧ s.liveDtLimit = false ∧ s.liveLocal = false := by
      simp [State.liveFailsafe, State.liveCurtailed, State.liveNoOffer, State.liveShed, State.liveDtLimit, State.liveLocal, hp]
    refine ⟨readyLine_iff, fun k => conditionWord_latch s, fun k l hl => ?_, ?_, fun hp => ?_, fun hp k hlo hhi => ?_, ?_,
      fun hm => ?_, fun hm => ?_, alarmLine_of_active⟩
    · rw [State.latched, State.urgent, latch_index_of_list hl]
      exact ⟨rfl, rfl⟩
    · rw [conditionWord_live s 0, h14]
    · rw [conditionWord_live s 1, conditionWord_live s 2, conditionWord_live s 3, conditionWord_live s 4,
        conditionWord_live s 5, conditionWord_live s 6, h15, h16, h17, h18, h19, h20]
      simp [State.liveFailsafe, State.liveCurtailed, State.liveNoOffer, State.liveShed, State.liveDtLimit, State.liveLocal, hp,
        AllocationRecord.curtailed]
    · obtain ⟨hf, hc, hn, hsh, hd, hl⟩ := hplant hp
      obtain ⟨j, rfl⟩ := Nat.exists_eq_add_of_le (show 14 ≤ k by omega)
      rw [conditionWord_live]
      obtain rfl | rfl | rfl | rfl | rfl | rfl : j = 1 ∨ j = 2 ∨ j = 3 ∨ j = 4 ∨ j = 5 ∨ j = 6 := by omega
      · exact h15.trans hf
      · exact h16.trans hc
      · exact h17.trans hn
      · exact h18.trans hsh
      · exact h19.trans hd
      · exact h20.trans hl
    · rw [conditionWord_live s 7, h21]
      rfl
    · simp [State.alarmLine, hm]
    · simp [State.alarmLine, hm]
  · obtain ⟨hrise, hfall⟩ := readyLine_moves hs ht
    refine ⟨fun hc => ?_, fun hm ⟨order, hc⟩ => ?_, hrise, hfall⟩
    · subst hc
      obtain ⟨u, hu, -, hmode, -⟩ := resetPinReturnsToReset s
      obtain rfl : u = t := Host.Outcome.next.inj (hu.symm.trans ht)
      simp [State.readyLine, Mode.speaking, hmode]
    · subst hc
      obtain ⟨u, hu, -, hready, -⟩ := (joinTimerEntersRunning order s hs).1 hm
      obtain rfl : u = t := Host.Outcome.next.inj (hu.symm.trans ht)
      exact hready

end Sys2Proof.Machine
end

section
/-! The Report Scheduler and the control-period ends (spec/02, spec/05, spec/06): how a report that falls due is queued, the
change trigger, and what each control period makes of its block. -/

namespace Sys2Proof.Machine

variable {s t u : State}

/-! ### What several operations leave unchanged -/

theorem Unchanged.mono {a b : List BlockName} (h : Unchanged a s t) (hab : ∀ x ∈ a, x ∈ b) : Unchanged b s t := by
  obtain ⟨hp, h1, h2, h3, h4, h5, h6, h7, h8, h9, h10, h11, h12⟩ := h
  exact ⟨hp, fun h => h1 fun hx => h (hab _ hx), fun h => h2 fun hx => h (hab _ hx), fun h => h3 fun hx => h (hab _ hx),
    fun h => h4 fun hx => h (hab _ hx), fun h => h5 fun hx => h (hab _ hx), fun h => h6 fun hx => h (hab _ hx),
    fun h => h7 fun hx => h (hab _ hx), fun h => h8 fun hx => h (hab _ hx), fun h => h9 fun hx => h (hab _ hx),
    fun h => h10 fun hx => h (hab _ hx), fun h => h11 fun hx => h (hab _ hx), fun h => h12 fun hx => h (hab _ hx)⟩

theorem Unchanged.trans {a : List BlockName} (h : Unchanged a s t) (h' : Unchanged a t u) : Unchanged a s u := by
  obtain ⟨hp, h1, h2, h3, h4, h5, h6, h7, h8, h9, h10, h11, h12⟩ := h
  obtain ⟨hp', h1', h2', h3', h4', h5', h6', h7', h8', h9', h10', h11', h12'⟩ := h'
  exact ⟨hp'.trans hp, fun h => (h1' h).trans (h1 h), fun h => (h2' h).trans (h2 h), fun h => (h3' h).trans (h3 h),
    fun h => (h4' h).trans (h4 h), fun h => (h5' h).trans (h5 h), fun h => (h6' h).trans (h6 h),
    fun h => (h7' h).trans (h7 h), fun h => (h8' h).trans (h8 h), fun h => (h9' h).trans (h9 h),
    fun h => (h10' h).trans (h10 h), fun h => (h11' h).trans (h11 h), fun h => (h12' h).trans (h12 h)⟩

/-! ### A report that falls due (R42, R43) -/

/-- The report that falls due and is queued: both timers started (R42). -/
def State.reportQueued (s : State) : State :=
  enqueue (.report none) (s.setReports
    { s.reports with
      reportDue := false
      intervalTimer := startSeconds s.config.reportInterval
      spacingTimer := startTenths s.config.minSpacing })

theorem queueReport_of_free (hdue : s.reports.reportDue = true)
    (hq : s.reports.spacingTimer.isRunning = false ∧ s.line.holdsReport = false ∧ s.line.txCount < 6) :
    queueReport s = s.reportQueued := by
  obtain ⟨hsp, hh, hroom⟩ := hq
  simp [queueReport, State.reportQueued, hdue, hsp, LineUnit.acceptsReport, hh, Config.txCapacity, hroom]

theorem queueReport_of_not_free
    (hq : s.reports.spacingTimer.isRunning = true ∨ s.line.holdsReport = true ∨ 6 ≤ s.line.txCount) :
    queueReport s = s := by
  have hno : (s.reports.reportDue && !s.reports.spacingTimer.isRunning && s.line.acceptsReport) ≠ true := by
    rcases hq with h | h | h <;> simp [LineUnit.acceptsReport, Config.txCapacity, h, Nat.not_lt.2]
  rw [queueReport, if_neg hno]

theorem queueReport_of_not_due (h : s.reports.reportDue = false) : queueReport s = s := by
  simp [queueReport, h]

/-- What an event that ends in report-due makes of a settled station (R42, R43, R158). -/
theorem afterReportDue (hs : Settled s) : AfterReportDue s (settle (queueReport (setReportDue true s))) := by
  obtain ⟨hrest, hidle⟩ := hs
  by_cases hq : s.reports.spacingTimer.isRunning = false ∧ s.line.holdsReport = false ∧ s.line.txCount < 6
  · have hfree : ¬(s.reports.spacingTimer.isRunning = true ∨ s.line.holdsReport = true ∨ 6 ≤ s.line.txCount) := by
      obtain ⟨hsp, hh, hroom⟩ := hq
      simp [hsp, hh, hroom]
    have he : settle (queueReport (setReportDue true s)) = arbitrate (setReportDue true s).reportQueued := by
      rw [queueReport_of_free (s := setReportDue true s) rfl hq]
      exact settle_of_not_restartDue hrest
    rw [he]
    refine ⟨?_, ?_, ?_, ?_, fun _ => ⟨?_, ?_, ?_, ?_⟩, fun h => absurd h hfree⟩
    · simp [Unchanged, State.reportQueued]
    · simp [LineQuiet, State.reportQueued]
    · simp [ReportsQuiet, State.reportQueued]
    · simp [State.reportQueued]
    · simp [State.reportQueued]
    · simp [State.reportQueued, startSeconds]
    · simp [State.reportQueued, startTenths]
    · exact arbitrate_enqueue_txEntries hidle
  · have hbusy : s.reports.spacingTimer.isRunning = true ∨ s.line.holdsReport = true ∨ 6 ≤ s.line.txCount := by
      by_contra hno
      push Not at hno
      exact hq ⟨by simpa using hno.1, by simpa using hno.2.1, hno.2.2⟩
    have he : settle (queueReport (setReportDue true s)) = setReportDue true s := by
      rw [queueReport_of_not_free (s := setReportDue true s) hbusy]
      exact settle_of_settled ⟨hrest, hidle⟩
    rw [he]
    exact ⟨by simp [Unchanged], by simp [LineQuiet], by simp [ReportsQuiet], rfl, fun h => absurd h hq, fun _ => rfl⟩

/-- Settles O45. -/
theorem reportTimers : Obligations.ReportTimers := by
  intro s hs
  obtain ⟨hrest, hidle⟩ := hs.settled
  refine ⟨fun hrun habs => ?_, fun hrun habs => ?_, fun hstop => ?_, fun hrun hdue => ?_, fun hrun hdue => ?_,
    fun hstop => ?_⟩
  · rw [hs.exec_event]
    simp only [eventOf, reportIntervalExpiry, hrun, habs, if_true]
    exact congrArg _ (settle_of_settled (s := setIntervalTimer _ s) ⟨hrest, hidle⟩)
  · refine ⟨_, hs.exec_event _, ?_⟩
    simp only [eventOf, reportIntervalExpiry, hrun, habs, if_true]
    exact afterReportDue (s := setIntervalTimer .stopped s) ⟨hrest, hidle⟩
  · exact hs.exec_self (by rfl) (by simp [reportIntervalExpiry, hstop])
  · refine ⟨_, hs.exec_event _, ?_⟩
    have hset : s.setReports { s.reports with spacingTimer := .stopped }
        = setReportDue true (s.setReports { s.reports with spacingTimer := .stopped }) := by
      rw [setReportDue, ← hdue]
      rfl
    simp only [eventOf, spacingTimerExpiry, hrun, if_true]
    have hafter := afterReportDue (s := s.setReports { s.reports with spacingTimer := .stopped }) ⟨hrest, hidle⟩
    rwa [← hset] at hafter
  · rw [hs.exec_event]
    simp only [eventOf, spacingTimerExpiry, hrun, if_true]
    rw [queueReport_of_not_due (by exact hdue)]
    exact congrArg _ (settle_of_settled (s := s.setReports _) ⟨hrest, hidle⟩)
  · exact hs.exec_self (by rfl) (by simp [spacingTimerExpiry, hstop])

/-! ### The change trigger at a control-period end (R40) -/

/-- What a control-period end can move (R40, R42). -/
structure PeriodEnd (u t : State) : Prop where
  unchanged : Unchanged [.line, .reports] u t
  lineQuiet : LineQuiet u t
  reportsQuiet : ReportsQuiet u t
  repliesLost : t.line.repliesLost = u.line.repliesLost

theorem PeriodEnd.refl (u : State) : PeriodEnd u u :=
  ⟨by simp [Unchanged], by simp [LineQuiet], by simp [ReportsQuiet], rfl⟩

theorem AfterReportDue.periodEnd (h : AfterReportDue u t) : PeriodEnd u t := by
  obtain ⟨hun, hline, hrep, hlost, -⟩ := h
  exact ⟨hun, hline, hrep, hlost⟩

theorem changeTrigger_of_seen (hs : Settled u) (hspeak : u.speaking = true) (hseen : changeSeen u = true)
    (habs : u.line.absorbsReport = false) : AfterReportDue u (settle (changeTrigger u)) := by
  simp only [changeTrigger, hspeak, hseen, habs, Bool.not_false, Bool.and_self, if_true]
  exact afterReportDue hs

theorem changeTrigger_of_not_seen (hs : Settled u)
    (h : u.speaking = false ∨ changeSeen u = false ∨ u.line.absorbsReport = true) : settle (changeTrigger u) = u := by
  have hno : (u.speaking && changeSeen u && !u.line.absorbsReport) ≠ true := by
    rcases h with h | h | h <;> simp [h]
  rw [changeTrigger, if_neg hno]
  exact settle_of_settled hs

theorem periodEnd (hs : Settled u) : PeriodEnd u (settle (changeTrigger u)) := by
  by_cases h : u.speaking = false ∨ changeSeen u = false ∨ u.line.absorbsReport = true
  · rw [changeTrigger_of_not_seen hs h]
    exact .refl u
  · push Not at h
    exact (changeTrigger_of_seen hs (by simpa using h.1) (by simpa using h.2.1) (by simpa using h.2.2)).periodEnd

theorem distance_eq_natAbs (a b : Nat) : distance a b = ((a : Int) - (b : Int)).natAbs := by
  unfold distance
  split <;> omega

theorem differs_iff (delta : Nat) (old present : Snapshot) : differs delta old present = true ↔ Changed delta old present := by
  cases old <;> cases present <;> simp [differs, Changed, distance_eq_natAbs, or_assoc]

/-! ### The control period of the Valve Loop (R86 to R103) -/

/-- The Share Engine from which Stage 4 reads the grant (R53, R92). -/
def shareRead (order : GrantOrder) (s : State) : ShareEngine := (publish order (stagesOneToThree s)).share

/-- The Valve Loop after Stages 1 to 6, with the grant read from the Share Engine b (R88 to R101). -/
def valveAfter (b : ShareEngine) (s : State) : ValveLoop := (stagesFourToSix ((stagesOneToThree s).setShare b)).valve

/-- The Share Engine at the control-period end (R53). -/
def shareAtEnd (order : GrantOrder) (s : State) : ShareEngine :=
  (computeBeforeEnd order (stagesFourToSix (publish order (stagesOneToThree s)))).share

/-- The station at the end of the Valve Loop's control period, before the change trigger. -/
def valveEnd (order : GrantOrder) (s : State) : State :=
  valveDrive ((s.setShare (shareAtEnd order s)).setValve (valveAfter (shareRead order s) s))

/-- The computation that is taken after the drive record reads none of it (R53, R103). -/
theorem computeBeforeEnd_valveDrive (order : GrantOrder) (u : State) :
    computeBeforeEnd order (valveDrive u) = valveDrive (u.setShare (computeBeforeEnd order u).share) := by
  cases order with
  | computationFirst => rfl
  | readThenComputation =>
    show (if (u.speaking && u.isTransfer) = true then takeComputation (valveDrive u) else valveDrive u)
      = valveDrive (u.setShare (if (u.speaking && u.isTransfer) = true then takeComputation u else u).share)
    split <;> rfl
  | readFirst => rfl

theorem valvePeriodExpiry_of_running (order : GrantOrder) (hrun : s.valve.periodTimer.isRunning = true) :
    valvePeriodExpiry order s = changeTrigger (valveEnd order s) := by
  have hvalve : valveAfter (shareRead order s) s = (stagesFourToSix (publish order (stagesOneToThree s))).valve := by
    unfold valveAfter shareRead
    rw [← publish_eq_setShare]
  unfold valvePeriodExpiry valveEnd shareAtEnd
  rw [if_pos hrun, computeBeforeEnd_valveDrive, hvalve, stagesFourToSix_publish]
  rfl

/-- The control period runs exactly in a transfer station that has left STARTING, and moves the Valve Loop, the Share Engine
and the drive lane before its change trigger (R86). -/
theorem valvePeriod_end (hs : StationOk s) (ht : s.isTransfer = true) (order : GrantOrder) :
    exec (.valveLoopControlPeriodExpiry order) s = .next (settle (changeTrigger (valveEnd order s)))
      ∧ Settled (valveEnd order s) := by
  obtain ⟨-, -, -, -, -, -, -, hvt, -⟩ := hs.eventOk.mode
  refine ⟨?_, hs.settled⟩
  rw [hs.exec_event, eventOf, valvePeriodExpiry_of_running order (hvt.trans ht)]

theorem valveAfter_limiter (b : ShareEngine) (s : State) :
    (valveAfter b s).limiter = limiterAfter s.config s.valve.limiter (deltaT (s.reading .ts) (s.reading .tr))
      ∧ (valveAfter b s).lastDt = deltaT (s.reading .ts) (s.reading .tr) := ⟨rfl, rfl⟩

theorem valveAfter_request (b : ShareEngine) (s : State) :
    (valveAfter b s).qreq = buildingRequest (s.measure.functionActive .isolationClosed) (s.reading .qb) s.config.qDef
        (valveAfter b s).limiter
      ∧ (valveAfter b s).qr = leastPresent (valveAfter b s).qreq [s.limit.limitInForce, s.shedCap]
      ∧ (valveAfter b s).qt = min (valveAfter b s).qr b.record.grant := ⟨rfl, rfl, rfl⟩

theorem valveAfter_command (b : ShareEngine) (s : State) :
    (valveAfter b s).command = valveCommand s.config s.band s.control.mode (s.reading .q) (s.reading .vf)
        (s.measure.functionActive .localHand) (s.measure.functionActive .isolationClosed) s.valve.command
        (valveAfter b s).qt
      ∧ (valveAfter b s).failsafe = takesFailCase s.control.mode (s.reading .q)
      ∧ (valveAfter b s).localHand = s.measure.functionActive .localHand := ⟨rfl, rfl, rfl⟩

theorem valveAfter_flags (b : ShareEngine) (s : State) :
    (valveAfter b s).wide = wideFlag s.config s.band (valveAfter b s).command
      ∧ (valveAfter b s).starve = starveAfter s.config (valveAfter b s).wide (s.reading .q) (valveAfter b s).qt s.valve.starve
      ∧ (valveAfter b s).starved = decide ((valveAfter b s).starve = s.config.starveCount)
      ∧ (valveAfter b s).margin = marginOf s.config (s.reading .dp) s.measure.dpf := ⟨rfl, rfl, rfl, rfl⟩

/-- What the period leaves at the Valve Loop, the Share Engine and the drive lane stands after the change trigger. -/
theorem valvePeriod_blocks (hs : StationOk s) (order : GrantOrder) :
    (settle (changeTrigger (valveEnd order s))).valve = valveAfter (shareRead order s) s
      ∧ (settle (changeTrigger (valveEnd order s))).share = shareAtEnd order s
      ∧ (settle (changeTrigger (valveEnd order s))).driveLane = (valveEnd order s).driveLane := by
  obtain ⟨⟨-, -, -, -, -, hshare, -, hvalve, -, -, -, -, hdrive⟩, -⟩ := periodEnd (u := valveEnd order s) hs.settled
  exact ⟨hvalve (by decide), hshare (by decide), hdrive (by decide)⟩

/-- The computation that answers the publication, where the publication is not dropped (R49, R50). -/
theorem answerPublication_share (ht : u.isTransfer = true) :
    (answerPublication u).share
      = if u.speaking = true then { u.share with record := computeShare u.shareInputs } else u.share := by
  unfold answerPublication
  rw [ht, Bool.and_true]
  split <;> rfl

theorem shareTrigger_share (ht : u.isTransfer = true) :
    (shareTrigger u).share = { u.share with triggers := u.share.triggers + if u.speaking = true then 1 else 0 } := by
  unfold shareTrigger
  rw [ht, Bool.and_true]
  split
  next h => rfl
  next h => rfl

/-- The Share Engine after the period and at the read, by the order (R53, log 4, log 7). -/
theorem share_of_order (b : ShareEngine) (ht : s.isTransfer = true) :
    (shareRead .readFirst s).record.grant = s.share.record.grant
      ∧ shareAtEnd .readFirst s = { s.share with triggers := s.share.triggers + if s.speaking = true then 1 else 0 }
      ∧ (shareRead .readThenComputation s).record.grant = s.share.record.grant
      ∧ shareAtEnd .readThenComputation s = (if s.speaking = true then
          { s.share with record := computeShare { s.shareInputs with qr := (valveAfter b s).qr } } else s.share)
      ∧ shareRead .computationFirst s = shareAtEnd .computationFirst s
      ∧ shareAtEnd .computationFirst s = (if s.speaking = true then
          { s.share with record := computeShare { s.shareInputs with qr := (valveAfter b s).qr } } else s.share) := by
  have htrigger := shareTrigger_share (u := stagesOneToThree s) ht
  refine ⟨?_, htrigger, rfl, ?_, rfl, ?_⟩
  · exact congrArg (·.record.grant) htrigger
  · exact answerPublication_share (u := stagesFourToSix (stagesOneToThree s)) ht
  · exact answerPublication_share (u := stagesOneToThree s) ht

theorem starveAfter_of_low {d : Descriptor} {wide : Bool} {q qt n : Nat} (hw : wide = true)
    (h : q + d.starveMargin < qt) :
    starveAfter d wide (some q) qt n = if n = d.starveCount then n else n + 1 := by
  simp [starveAfter, hw, h]

theorem starveAfter_of_not_low {d : Descriptor} {wide : Bool} {o : Option Nat} {qt n : Nat}
    (h : ∀ q, o = some q → wide = true → qt ≤ q + d.starveMargin) : starveAfter d wide o qt n = 0 := by
  unfold starveAfter
  split
  next q => exact if_neg fun ⟨hw, hlow⟩ => absurd (h q rfl hw) (Nat.not_le.2 hlow)
  next => rfl

/-- Settles O19. -/
theorem valvePeriodSetsFlags : Obligations.ValvePeriodSetsFlags := by
  intro order s hs ht
  obtain ⟨he, -⟩ := valvePeriod_end hs ht order
  obtain ⟨hv, -, -⟩ := valvePeriod_blocks hs order
  obtain ⟨-, -, -, hstarve, -⟩ := hs.eventOk.valve.1 ht
  refine ⟨_, he, ?_⟩
  rw [hv]
  generalize shareRead order s = b
  obtain ⟨hwide, hcount, hstarved, hmargin⟩ := valveAfter_flags b s
  refine ⟨?_, ?_, ?_, ?_, ?_, ?_⟩
  · rw [hwide, wideFlag, decide_eq_true_iff, min_le_iff]
  · rintro ⟨hw, q, hq, hlow⟩
    rw [hcount, hq, starveAfter_of_low hw hlow]
    split <;> omega
  · intro hno
    rw [hcount]
    refine starveAfter_of_not_low fun q hq hw => ?_
    rcases hno with h | h | ⟨q', hq', hle⟩
    · exact absurd (hw.symm.trans h) (by decide)
    · exact absurd (hq.symm.trans h) (by simp)
    · obtain rfl : q = q' := Option.some.inj (hq.symm.trans hq')
      exact hle
  · rw [hstarved, decide_eq_true_iff]
  · intro hdp
    simp only [hmargin, marginOf, hdp]
  · intro d p hd hp
    simp only [hmargin, marginOf, hd, hp, clampInt]
    rfl

/-- The characters of a drive value (R174, R181). -/
theorem u16_characters (v : Nat) :
    (u16 v).extractLsb' 8 8 = BitVec.ofNat 8 (v / 256) ∧ (u16 v).extractLsb' 0 8 = BitVec.ofNat 8 v := by
  constructor <;> apply BitVec.eq_of_toNat_eq <;>
    simp only [u16, BitVec.extractLsb'_toNat, BitVec.toNat_ofNat, Nat.shiftRight_eq_div_pow] <;> omega

theorem driveFlags (failsafe hold localHand safe : Bool) :
    DriveFlags (0#4 ++ bit safe ++ bit localHand ++ bit hold ++ bit failsafe) failsafe hold localHand safe := by
  refine ⟨?_, ?_, ?_, ?_, fun k hk => ?_⟩
  · exact getLsbD_append_bit_zero _ _
  · exact (getLsbD_append_bit_succ _ _ 0).trans (getLsbD_append_bit_zero _ _)
  · exact (getLsbD_append_bit_succ _ _ 1).trans
      ((getLsbD_append_bit_succ _ _ 0).trans (getLsbD_append_bit_zero _ _))
  · exact (getLsbD_append_bit_succ _ _ 2).trans ((getLsbD_append_bit_succ _ _ 1).trans
      ((getLsbD_append_bit_succ _ _ 0).trans (getLsbD_append_bit_zero _ _)))
  · obtain ⟨j, rfl⟩ := Nat.exists_eq_add_of_le' hk
    exact (getLsbD_append_bit_succ _ _ (j + 3)).trans ((getLsbD_append_bit_succ _ _ (j + 2)).trans
      ((getLsbD_append_bit_succ _ _ (j + 1)).trans ((getLsbD_append_bit_succ _ _ j).trans BitVec.getLsbD_zero)))

/-- A drive record and its flags (R103, R119, R181). -/
theorem exists_driveFlags (failsafe hold localHand safe : Bool) (v : Nat) (lane : List (List Byte)) :
    ∃ flags, driveRecord failsafe hold localHand safe (u16 v) :: lane
        = [0x5A#8, flags, BitVec.ofNat 8 (v / 256), BitVec.ofNat 8 v] :: lane
      ∧ DriveFlags flags failsafe hold localHand safe := by
  obtain ⟨hhigh, hlow⟩ := u16_characters v
  refine ⟨_, ?_, driveFlags failsafe hold localHand safe⟩
  rw [driveRecord, hhigh, hlow]

section ValveCases

variable {d : Descriptor} {b : DriveBand} {mode : Mode} {vf : Option Nat} {inHand closed : Bool} {v qt : Nat}

theorem valveCommand_fail {q : Option Nat} (h : q = none ∨ mode = .joining) :
    valveCommand d b mode q vf inHand closed v qt = d.failPosition := by
  unfold valveCommand
  split
  · rfl
  next flow => exact if_pos (h.resolve_left (by simp))

theorem valveCommand_hold (q : Nat) : valveCommand d b .hold (some q) vf inHand closed v qt = v := by
  simp [valveCommand]

theorem valveCommand_inHand_of_some (q p : Nat) :
    valveCommand d b .running (some q) (some p) true closed v qt = clampNat b.lo b.hi p := by
  simp [valveCommand]

theorem valveCommand_inHand_of_none (q : Nat) : valveCommand d b .running (some q) none true closed v qt = v := by
  simp [valveCommand]

theorem valveCommand_normal (q : Nat) :
    valveCommand d b .running (some q) vf false closed v qt = normalCommand d b closed v qt q := by
  simp [valveCommand]

end ValveCases

/-- Settles O18. -/
theorem valvePeriodMovesValve : Obligations.ValvePeriodMovesValve := by
  intro order s hs ht
  obtain ⟨he, -⟩ := valvePeriod_end hs ht order
  obtain ⟨hv, -, hdrive⟩ := valvePeriod_blocks hs order
  obtain ⟨-, -, hband, -⟩ := hs.eventOk.valve.1 ht
  refine ⟨_, he, ?_⟩
  rw [hv, hdrive]
  have hlane : (valveEnd order s).driveLane
      = driveRecord (valveAfter (shareRead order s) s).failsafe s.liveHold (valveAfter (shareRead order s) s).localHand false
          (u16 (valveAfter (shareRead order s) s).command) :: s.driveLane := rfl
  rw [hlane]
  generalize shareRead order s = b
  obtain ⟨hcommand, hfail, hlocal⟩ := valveAfter_command b s
  refine ⟨fun h => ?_, fun q hq hm => ?_, fun q hq hm => ⟨?_, fun hh => ⟨fun p hp => ?_, fun hp => ?_⟩,
    fun hh => ⟨fun hc => ?_, fun hc => ?_⟩⟩, hlocal, ?_, exists_driveFlags _ _ _ _ _ _⟩
  · rw [hcommand, hfail, valveCommand_fail h]
    exact ⟨rfl, by rcases h with h | h <;> simp [takesFailCase, h]⟩
  · rw [hcommand, hfail, hq, hm, valveCommand_hold]
    exact ⟨rfl, rfl⟩
  · rw [hfail, hq, hm]
    rfl
  · rw [hcommand, hq, hm, hh, hp, valveCommand_inHand_of_some]
    rfl
  · rw [hcommand, hq, hm, hh, hp, valveCommand_inHand_of_none]
  · rw [hcommand, hq, hm, hh, valveCommand_normal, hc]
    rfl
  · rw [hcommand, hq, hm, hh, valveCommand_normal, hc]
    exact moveWithin_cast _ _
  · rw [hcommand]
    exact valveCommand_mem (hs.eventOk.bandOk (hs.eventOk.active_of_isTransfer ht)) (config_role_of_isTransfer ht) hband _ _ _ _ _ _

theorem limiterAfter_some (d : Descriptor) (l : Nat) (dt : Int) :
    (dt < d.dTmin → limiterAfter d l (some dt) = max d.lFloor (l - d.lTight))
      ∧ ((d.dTmin : Int) ≤ dt → dt < d.dTmin + d.dThys → limiterAfter d l (some dt) = l)
      ∧ ((d.dTmin : Int) + d.dThys ≤ dt → limiterAfter d l (some dt) = min 1000 (l + d.lRelax)) := by
  simp only [limiterAfter]
  refine ⟨fun h => if_pos h, fun hlo hhi => ?_, fun h => ?_⟩
  · rw [if_neg (by omega), if_neg (by omega)]
  · rw [if_neg (by omega), if_pos h]

theorem deltaT_of_none {ts tr : Option Nat} (h : ts = none ∨ tr = none) : deltaT ts tr = none := by
  rcases h with rfl | rfl
  · rfl
  · cases ts <;> rfl

/-- The least of a request and those of two limits that are present (R82, R91). -/
theorem leastPresent_pair_spec (n : Nat) (a b : Option Nat) :
    leastPresent n [a, b] ≤ n ∧ (∀ l ∈ a, leastPresent n [a, b] ≤ l) ∧ (∀ l ∈ b, leastPresent n [a, b] ≤ l)
      ∧ (leastPresent n [a, b] = n ∨ a = some (leastPresent n [a, b]) ∨ b = some (leastPresent n [a, b])) := by
  rw [leastPresent_pair]
  cases a <;> cases b <;> simp <;> omega

/-- Settles O17. -/
theorem valvePeriodFormsRequest : Obligations.ValvePeriodFormsRequest := by
  intro order s hs ht
  obtain ⟨he, -⟩ := valvePeriod_end hs ht order
  obtain ⟨hv, hshare, -⟩ := valvePeriod_blocks hs order
  obtain ⟨hun, hline, hreports, hlost⟩ := periodEnd (u := valveEnd order s) hs.settled
  obtain ⟨hlim, hdt⟩ := valveAfter_limiter (shareRead order s) s
  obtain ⟨hqreq, hqr, hqt⟩ := valveAfter_request (shareRead order s) s
  obtain ⟨hleast, hlimit, hshed, hone⟩ := leastPresent_pair_spec (valveAfter (shareRead order s) s).qreq
    s.limit.limitInForce s.shedCap
  rw [← hqr] at hleast hlimit hshed hone
  refine ⟨_, he, ?_⟩
  rw [hv, hshare]
  refine ⟨fun a b ha hb => ?_, fun h => ?_, fun hc => ?_, fun hc => ⟨fun q hq => ?_, fun hq => ?_⟩,
    ⟨hleast, hlimit, fun h => hshed _ (by simp [State.shedCap, h]), ?_⟩, fun ho => ?_, fun ho => ?_, fun ho => ?_, rfl, hline,
    hreports, hlost, ?_⟩
  · have hd : deltaT (s.reading .ts) (s.reading .tr) = some ((b : Int) - (a : Int)) := by rw [ha, hb]; rfl
    rw [hlim, hdt, hd]
    exact ⟨rfl, limiterAfter_some _ _ _⟩
  · rw [hlim, hdt, deltaT_of_none h]
    exact ⟨rfl, rfl⟩
  · rw [hqreq, hc]
    rfl
  · rw [hqreq, hc, hq]
    rfl
  · rw [hqreq, hc, hq]
    rfl
  · refine hone.imp id (.imp id fun h => ?_)
    unfold State.shedCap at h
    split at h
    next hin => exact ⟨hin, (Option.some.inj h).symm⟩
    next => exact nomatch h
  · subst ho
    obtain ⟨hread, hend, -⟩ := share_of_order (shareRead .readFirst s) ht
    exact ⟨hqt.trans (by rw [hread]), hend⟩
  · subst ho
    obtain ⟨-, -, hread, hend, -⟩ := share_of_order (shareRead .readThenComputation s) ht
    exact ⟨hqt.trans (by rw [hread]), hend⟩
  · subst ho
    obtain ⟨-, -, -, -, hread, hend⟩ := share_of_order (shareRead .computationFirst s) ht
    exact ⟨hqt.trans (by rw [hread]), hend⟩
  · have hend : Unchanged [.line, .reports, .share, .valve, .driveLane] s (valveEnd order s) := by
      simp [Unchanged, valveEnd, valveDrive]
    exact hend.trans (hun.mono (by decide))

/-! ### The control period of the Head Reset Unit (R110 to R119) -/

/-- The station at the end of the Head Reset Unit's control period, before the change trigger. -/
def headEnd (s : State) : State := headDrive (moveHead (chooseCritical s))

/-- What the period leaves at the Head Reset Unit (R112, R113, R118). -/
theorem headEnd_head (s : State) :
    (headEnd s).head.headCase = headCaseOf s.control.mode s.line.isolated (headEnd s).head.eligible (headEnd s).head.starvedEligible
      ∧ (headEnd s).head.setpoint = headAfter s.config s.band (headEnd s).head.headCase (headEnd s).head.criticalMargin
          s.head.setpoint
      ∧ (headEnd s).head.lastMovement = ((headEnd s).head.setpoint : Int) - (s.head.setpoint : Int)
      ∧ (headEnd s).head.offer = s.head.offer ∧ (headEnd s).head.offerBasis = s.head.offerBasis
      ∧ (headEnd s).head.periodTimer = s.head.periodTimer
      ∧ (headEnd s).driveLane = driveRecord false s.liveHold false false (u16 (headEnd s).head.setpoint) :: s.driveLane := by
  unfold headEnd chooseCritical
  split <;> exact ⟨rfl, rfl, rfl, rfl, rfl, rfl, rfl⟩

theorem headEnd_eq (s : State) :
    headEnd s = (s.setHead (headEnd s).head).sendDrive
      (driveRecord false s.liveHold false false (u16 (headEnd s).head.setpoint)) := by
  unfold headEnd chooseCritical
  split <;> rfl

theorem headPeriod_end (hs : StationOk s) (hp : s.isPlant = true) :
    exec .headControlPeriodExpiry s = .next (settle (changeTrigger (headEnd s))) ∧ Settled (headEnd s) := by
  have hsettled : Settled (headEnd s) := by
    rw [headEnd_eq]
    exact hs.settled
  refine ⟨?_, hsettled⟩
  rw [hs.exec_event, eventOf, headPeriodExpiry, if_pos (hs.headPeriodTimer_isRunning.trans hp)]
  rfl

/-- With an eligible peer in the table there is a critical margin (R112). -/
theorem exists_criticalMargin (hs : StationOk s) (hm : s.control.mode ≠ .joining) (h : (headEnd s).head.eligible ≠ 0) :
    ∃ mc, (headEnd s).head.criticalMargin = some mc := by
  have hhead : (headEnd s).head.eligible = eligibleCount s.peers.entries
      ∧ (headEnd s).head.criticalMargin = (leastMargin s.peers.entries).map Prod.snd := by
    unfold headEnd
    rw [chooseCritical_of_not_joining hm]
    exact ⟨rfl, rfl⟩
  rcases leastMargin_cases hs.ascending with ⟨-, hno⟩ | ⟨c, mc, hsome, -⟩
  · exact absurd (hhead.1.trans (eligibleCount_eq_zero fun e m he => hno e m he)) h
  · exact ⟨mc, by rw [hhead.2, hsome]; rfl⟩

/-- Settles O22. -/
theorem headPeriodMovesHead : Obligations.HeadPeriodMovesHead := by
  intro s hs hp
  obtain ⟨he, hsettled⟩ := headPeriod_end hs hp
  obtain ⟨hun, hline, hreports, hlost⟩ := periodEnd hsettled
  have hact := hs.eventOk.active_of_isPlant hp
  have hb := hs.eventOk.bandOk hact
  have hr := config_role_of_isPlant hp
  obtain ⟨⟨hlo, hhi⟩, -, -, -, -, -, -, -, hjoin⟩ := hs.eventOk.head.1 hp
  have hend : Unchanged [.line, .reports, .head, .driveLane] s (headEnd s) := by
    rw [headEnd_eq]
    simp [Unchanged]
  have hsame : (headEnd s).line = s.line ∧ (headEnd s).reports = s.reports := by
    rw [headEnd_eq]
    exact ⟨rfl, rfl⟩
  obtain ⟨-, -, -, -, -, -, -, -, hhead, -, -, -, hdrive⟩ := id hun
  obtain ⟨hcase, hset, hmove, hoffer, hbasis, htimer, hlane⟩ := headEnd_head s
  have hmem := (headAfter_mem hb hr hlo hhi (case := (headEnd s).head.headCase)
    (fun hc => hjoin (headCaseOf_eq_joining (hcase.symm.trans hc))) (headEnd s).head.criticalMargin).1
  rw [← hset] at hmem
  refine ⟨_, he, ?_⟩
  rw [hhead (by decide), hdrive (by decide), hlane]
  refine ⟨fun hm => ?_, fun hm => ?_, fun hm hi => ⟨?_, ?_⟩, fun hm hi h0 => ?_, fun hm hi h0 h1 => ?_, fun hm hi h0 h1 => ?_,
    hmove, hmem, hoffer, hbasis, htimer, exists_driveFlags _ _ _ _ _ _, ?_, ?_, ?_, hend.trans (hun.mono (by decide))⟩
  · have hc : (headEnd s).head.headCase = .joining := by rw [hcase, hm]; rfl
    refine ⟨hc, ?_⟩
    rw [hset, hc, ← hjoin hm]
    simp only [headAfter, ← hjoin hm]
    exact clampNat_of_mem hlo hhi
  · have hc : (headEnd s).head.headCase = .hold := by rw [hcase, hm]; rfl
    refine ⟨hc, ?_⟩
    rw [hset, hc]
    exact clampNat_of_mem hlo hhi
  · rw [hcase, hm, hi]
    rfl
  · have hc : (headEnd s).head.headCase = .isolated := by rw [hcase, hm, hi]; rfl
    obtain ⟨-, -, -, hplant⟩ := hb
    obtain ⟨-, -, -, hiso⟩ := hplant hr
    rw [hset, hc]
    simp only [headAfter]
    refine ⟨fun h => ?_, fun h => ?_, fun h => ?_⟩
    · rw [if_pos h]
      exact clampNat_of_mem (by omega) (by omega)
    · rw [if_neg (by omega), if_pos h]
      exact clampNat_of_mem (by omega) (by omega)
    · rw [if_neg (by omega), if_neg (by omega)]
      exact clampNat_of_mem hlo hhi
  · have hc : (headEnd s).head.headCase = .noPeers := by simp [hcase, headCaseOf, hm, hi, h0]
    refine ⟨hc, ?_⟩
    rw [hset, hc]
    exact clampNat_of_mem hlo hhi
  · have hc : (headEnd s).head.headCase = .starved := by
      simp [hcase, headCaseOf, hm, hi, h0, Nat.pos_of_ne_zero h1]
    refine ⟨hc, ?_⟩
    rw [hset, hc]
    simp only [headAfter, clampNat]
    omega
  · have hc : (headEnd s).head.headCase = .proportional := by simp [hcase, headCaseOf, hm, hi, h0, h1]
    obtain ⟨mc, hmc⟩ := exists_criticalMargin hs (by simp [hm]) h0
    refine ⟨hc, mc, hmc, ?_⟩
    rw [hset, hc, hmc]
    exact moveWithin_cast _ _
  · simpa [LineQuiet, hsame.1] using hline
  · simpa [ReportsQuiet, hsame.2] using hreports
  · rw [hlost, hsame.1]

/-! ### The change trigger of either role (R40) -/

/-- The snapshot values stand through a control-period end (R38, R40). -/
theorem PeriodEnd.presentSnapshot (h : PeriodEnd u t) : presentSnapshot t = presentSnapshot u := by
  obtain ⟨⟨-, hcontrol, -, -, -, hshare, hlimit, hvalve, hhead, hmeasure, -, hcondition, -⟩, hline, -, -⟩ := h
  obtain ⟨-, -, -, -, -, hiso, -⟩ := hline
  have hword : t.conditionWord = u.conditionWord := by
    simp only [State.conditionWord, State.liveConditions, State.liveHold, State.liveLocal, State.liveDtLimit, State.liveShed,
      State.liveNoOffer, State.liveCurtailed, State.liveFailsafe, State.isPlant, hcontrol (by decide), hshare (by decide),
      hlimit (by decide), hvalve (by decide), hcondition (by decide), hiso]
  simp only [Machine.presentSnapshot, State.config, State.trip, hcontrol (by decide), hshare (by decide),
    hlimit (by decide), hvalve (by decide), hhead (by decide), hmeasure (by decide), hword, hiso]

/-- The change trigger at the end u of a period that began in s (R40 to R43). -/
theorem changeTrigger_spec (hu : Settled u) (hspeak : u.speaking = s.speaking) (hconfig : u.config = s.config)
    (hline : u.line = s.line) (hreports : u.reports = s.reports) :
    let t := settle (changeTrigger u)
    ((s.speaking = true ∧ s.line.absorbsReport = false
        ∧ ∃ old, s.reports.snapshot = some old ∧ Changed s.config.reportDelta old (presentSnapshot t)) → AfterReportDue u t)
      ∧ ((s.speaking = false ∨ s.line.absorbsReport = true ∨ s.reports.snapshot = none
            ∨ ∃ old, s.reports.snapshot = some old ∧ ¬ Changed s.config.reportDelta old (presentSnapshot t)) →
          t.reports = s.reports ∧ t.line = s.line) := by
  intro t
  have hsnap : presentSnapshot t = presentSnapshot u := (periodEnd hu).presentSnapshot
  have hseen {old : Snapshot} (hold : s.reports.snapshot = some old) :
      changeSeen u = true ↔ Changed s.config.reportDelta old (presentSnapshot t) := by
    rw [hsnap, ← differs_iff, changeSeen, hreports, hold, hconfig]
  refine ⟨fun ⟨hs, habs, old, hold, hchanged⟩ => ?_, fun h => ?_⟩
  · exact changeTrigger_of_seen hu (hspeak.trans hs) ((hseen hold).2 hchanged) (by rw [hline]; exact habs)
  · have hu' : t = u := by
      refine changeTrigger_of_not_seen hu ?_
      rcases h with h | h | h | ⟨old, hold, hno⟩
      · exact .inl (hspeak.trans h)
      · exact .inr (.inr (by rw [hline]; exact h))
      · exact .inr (.inl (by simp [changeSeen, hreports, h]))
      · exact .inr (.inl (by simpa using mt (hseen hold).1 hno))
    rw [hu']
    exact ⟨hreports, hline⟩

/-- Settles O20. -/
theorem changeTriggerAtPeriodEnd : Obligations.ChangeTriggerAtPeriodEnd := by
  intro order s hs hact
  by_cases ht : s.isTransfer = true
  · obtain ⟨he, hsettled⟩ := valvePeriod_end hs ht order
    obtain ⟨hdue, hstay⟩ := changeTrigger_spec (s := s) hsettled rfl rfl rfl rfl
    obtain ⟨hv, hshare, hdrive⟩ := valvePeriod_blocks hs order
    obtain ⟨⟨-, -, -, -, -, -, -, -, hhead, -⟩, -⟩ := periodEnd hsettled
    rw [if_pos ht]
    refine ⟨_, he, fun h => ?_, hstay⟩
    rw [hv, hshare, hdrive, hhead (by decide)]
    exact hdue h
  · have hp : s.isPlant = true := by
      rw [isPlant_eq_not_isTransfer (hs.eventOk.config.1.trans hact)]
      simpa using ht
    obtain ⟨he, hsettled⟩ := headPeriod_end hs hp
    have hsame : (headEnd s).speaking = s.speaking ∧ (headEnd s).config = s.config ∧ (headEnd s).line = s.line
        ∧ (headEnd s).reports = s.reports ∧ (headEnd s).share = s.share ∧ (headEnd s).valve = s.valve := by
      rw [headEnd_eq]
      exact ⟨rfl, rfl, rfl, rfl, rfl, rfl⟩
    obtain ⟨hspeak, hconfig, hline, hreports, hshare, hvalve⟩ := hsame
    obtain ⟨hdue, hstay⟩ := changeTrigger_spec (s := s) hsettled hspeak hconfig hline hreports
    obtain ⟨⟨-, -, -, -, -, hshare', -, hvalve', hhead, -, -, -, hdrive⟩, -⟩ := periodEnd hsettled
    rw [if_neg ht]
    refine ⟨_, he, fun h => ?_, hstay⟩
    rw [hshare' (by decide), hvalve' (by decide), hhead (by decide), hdrive (by decide), hshare, hvalve]
    have hlane : (headEnd s).driveLane.headD [] = driveRecord false s.liveHold false false (u16 (headEnd s).head.setpoint) := by
      rw [headEnd_eq]
      rfl
    have hback : (((s.setShare s.share).setValve s.valve).setHead (headEnd s).head).sendDrive
        ((headEnd s).driveLane.headD []) = headEnd s := by
      rw [hlane, headEnd_eq s]
      rfl
    rw [hback]
    exact hdue h

end Sys2Proof.Machine
end

section
/-! The Share Engine (spec/03): when it computes, the five stages, and what its shares add up to. -/

namespace Sys2Proof.Machine

variable {s : State}

/-! ### When the Share Engine computes (R49, R50, R62) -/

/-- Settles O23. -/
theorem shareComputationAnswersTrigger : Obligations.ShareComputationAnswersTrigger := by
  intro s hs
  refine ⟨fun hspeak ht hn => ?_, fun h => ?_⟩
  · have he : shareComputation s = takeComputation (s.setShare { s.share with triggers := s.share.triggers - 1 }) := by
      simp [shareComputation, hspeak, ht, hn]
    refine hs.exec_eq (c := .shareComputation) ?_ rfl rfl
    rw [exec, execShareComputation, he]
    rfl
  · refine hs.exec_self (c := .shareComputation) rfl (if_neg ?_)
    rcases h with h | h | h <;> simp [h]

/-! ### The stages (R54 to R61) -/

/-- A member's share is nothing where it asks for nothing (R58). -/
@[simp] theorem memberShare_zero (r sum : Nat) : memberShare 0 r sum = 0 := by simp [memberShare]

theorem ownShareOf_eq (qr r sum : Nat) : ownShareOf qr r sum = memberShare qr r sum := by
  unfold ownShareOf
  split
  next h => simp [h]
  next => rfl

/-- The record of a computation, by the first of the fallbacks that applies (R55, R56). -/
theorem computeShare_cases (i : ShareInputs) :
    (i.isolated = true ∧ computeShare i = fallbackRecord i .isolated)
      ∨ (i.isolated = false ∧ i.entries.countP PeerEntry.freshPlant + i.entries.countP PeerEntry.stalePlant = 0
          ∧ computeShare i = fallbackRecord i .noOffer)
      ∨ (i.isolated = false ∧ i.entries.countP PeerEntry.freshPlant + i.entries.countP PeerEntry.stalePlant ≠ 0
          ∧ computeShare i = sharedRecord i) := by
  unfold computeShare
  cases hi : i.isolated with
  | true => exact .inl ⟨rfl, rfl⟩
  | false =>
    by_cases h0 : i.entries.countP PeerEntry.freshPlant + i.entries.countP PeerEntry.stalePlant = 0
    · exact .inr (.inl ⟨rfl, h0, if_pos h0⟩)
    · exact .inr (.inr ⟨rfl, h0, if_neg h0⟩)

/-- The class outcome, and the own share that goes with it (R60). -/
theorem classOutcome_full {qr r sum : Nat} (h : classOutcome qr r sum = .full) : ownShareOf qr r sum = qr := by
  unfold classOutcome at h
  rw [ownShareOf_eq]
  split at h
  next h0 => simp [h0]
  next =>
    split at h
    next hle => exact if_pos hle
    next => split at h <;> exact nomatch h

/-- Settles O25. -/
theorem grantWithinRequest : Obligations.GrantWithinRequest := by
  intro i
  have hcurtailed : (computeShare i).curtailed = true ↔ (computeShare i).grant < i.qr := by
    rw [AllocationRecord.curtailed, computeShare_requestUsed, decide_eq_true_iff]
  have hle := computeShare_grant_le i
  refine ⟨hle, fun hiso hno => ?_, hcurtailed, fun hfull => ?_⟩
  · rcases computeShare_cases i with ⟨-, h⟩ | ⟨-, -, h⟩ | ⟨-, -, h⟩
    · exact absurd (congrArg (·.outcome) h) hiso
    · exact absurd (congrArg (·.outcome) h) hno
    · have hfloor : min i.qr i.gFloor ≤ (computeShare i).grant := by
        rw [h]
        exact Nat.le_max_right _ _
      refine ⟨hfloor, fun hq => ?_⟩
      omega
  · rcases computeShare_cases i with ⟨-, h⟩ | ⟨-, -, h⟩ | ⟨-, -, h⟩
    · exact nomatch hfull.symm.trans (congrArg (·.outcome) h)
    · exact nomatch hfull.symm.trans (congrArg (·.outcome) h)
    · rw [h] at hfull ⊢
      have hshare := classOutcome_full hfull
      show max (ownShareOf _ _ _) _ = i.qr
      rw [hshare]
      exact Nat.max_eq_left (Nat.min_le_left _ _)

/-! ### Capacity, counts and class sums (R54, R57) -/

/-- The offer of a PLANT entry of this freshness in the sector (R54). -/
def offerAt (f : Freshness) (e : PeerEntry) : Option Nat :=
  match e.part with
  | .plant p => if e.membership = .inSector ∧ e.freshness = f then some p.offer else none
  | .transfer _ => none

/-- The request of a counted TRANSFER entry of class k (R57). -/
def requestAt (k : Nat) (e : PeerEntry) : Option Nat :=
  match e.part with
  | .transfer p => if e.membership = .inSector ∧ e.freshness ≠ .lost ∧ p.cls = k then some p.qr else none
  | .plant _ => none

theorem sum_filterMap {α : Type} (f : α → Option Nat) (l : List α) :
    (l.filterMap f).sum = (l.map fun a => (f a).getD 0).sum := by
  induction l with
  | nil => rfl
  | cons a rest ih => cases h : f a <;> simp [h, ih]

/-- An entry adds its offer in full while FRESH and half of it while STALE (R54). -/
theorem countedOffer_eq (e : PeerEntry) :
    e.countedOffer = (offerAt .fresh e).getD 0 + ((offerAt .stale e).map (· / 2)).getD 0 := by
  unfold PeerEntry.countedOffer offerAt PeerEntry.counted
  cases e.part with
  | transfer p => rfl
  | plant p => cases e.membership <;> cases e.freshness <;> simp

theorem capacityOf_eq (entries : List PeerEntry) :
    capacityOf entries = (entries.filterMap (offerAt .fresh)).sum
      + ((entries.filterMap (offerAt .stale)).map (· / 2)).sum := by
  rw [List.map_filterMap, sum_filterMap, sum_filterMap, ← List.sum_map_add, capacityOf]
  exact congrArg List.sum (List.map_congr_left fun e _ => countedOffer_eq e)

theorem freshPlants_eq (entries : List PeerEntry) :
    entries.countP PeerEntry.freshPlant = (entries.filterMap (offerAt .fresh)).length := by
  rw [List.length_filterMap_eq_countP]
  refine List.countP_congr fun e _ => ?_
  unfold PeerEntry.freshPlant offerAt PeerEntry.counted
  cases e.part with
  | transfer p => simp
  | plant p => cases e.membership <;> cases e.freshness <;> simp

theorem stalePlants_eq (entries : List PeerEntry) :
    entries.countP PeerEntry.stalePlant = (entries.filterMap (offerAt .stale)).length := by
  rw [List.length_filterMap_eq_countP]
  refine List.countP_congr fun e _ => ?_
  unfold PeerEntry.stalePlant offerAt PeerEntry.counted
  cases e.part with
  | transfer p => simp
  | plant p => cases e.membership <;> cases e.freshness <;> simp

theorem requestIn_eq (k : Nat) (e : PeerEntry) : e.requestIn k = (requestAt k e).getD 0 := by
  unfold PeerEntry.requestIn requestAt PeerEntry.counted
  cases e.part with
  | plant p => rfl
  | transfer p =>
    dsimp only
    by_cases hk : p.cls = k <;> cases e.membership <;> cases e.freshness <;> simp [hk]

theorem classSum_eq (entries : List PeerEntry) (ownClass qr k : Nat) :
    classSum entries ownClass qr k = (entries.filterMap (requestAt k)).sum + if ownClass = k then qr else 0 := by
  rw [sum_filterMap, classSum]
  have hmap := List.map_congr_left (l := entries) fun e _ => requestIn_eq k e
  rw [hmap]
  simp only [eq_comm]

/-- A counted TRANSFER entry is in exactly one of the four classes (R57). -/
theorem transferPeers_eq {entries : List PeerEntry} (hcls : ∀ e ∈ entries, ∀ p, e.part = .transfer p → p.cls ≤ 3) :
    entries.countP PeerEntry.countedTransfer
      = (entries.filterMap (requestAt 0)).length + (entries.filterMap (requestAt 1)).length
        + (entries.filterMap (requestAt 2)).length + (entries.filterMap (requestAt 3)).length := by
  induction entries with
  | nil => rfl
  | cons e rest ih =>
    have hrest := ih fun x hx => hcls x (List.mem_cons_of_mem _ hx)
    have he := hcls e (List.mem_cons_self ..)
    have hone : (if e.countedTransfer = true then 1 else 0)
        = (if (requestAt 0 e).isSome = true then 1 else 0) + (if (requestAt 1 e).isSome = true then 1 else 0)
          + (if (requestAt 2 e).isSome = true then 1 else 0) + (if (requestAt 3 e).isSome = true then 1 else 0) := by
      unfold PeerEntry.countedTransfer requestAt PeerEntry.counted
      cases hp : e.part with
      | plant p => rfl
      | transfer p =>
        have hp3 := he p hp
        obtain h | h | h | h : p.cls = 0 ∨ p.cls = 1 ∨ p.cls = 2 ∨ p.cls = 3 := by omega
        all_goals cases e.membership <;> cases e.freshness <;> simp [h]
    simp only [List.length_filterMap_eq_countP] at hrest ⊢
    simp only [List.countP_cons, hrest, hone]
    omega

/-- Capacity and counts are those of Stage 1 in every computation (R54). -/
theorem computeShare_stageOne (i : ShareInputs) :
    (computeShare i).capacity = capacityOf i.entries
      ∧ (computeShare i).freshPlants = i.entries.countP PeerEntry.freshPlant
      ∧ (computeShare i).stalePlants = i.entries.countP PeerEntry.stalePlant
      ∧ (computeShare i).transferPeers = i.entries.countP PeerEntry.countedTransfer := by
  rcases computeShare_cases i with ⟨-, h⟩ | ⟨-, -, h⟩ | ⟨-, -, h⟩ <;> rw [h] <;> exact ⟨rfl, rfl, rfl, rfl⟩

/-- The own share and the class outcome (R60). -/
theorem ownShare_cases (qr r sum : Nat) :
    (qr = 0 → ownShareOf qr r sum = 0 ∧ classOutcome qr r sum = .full)
      ∧ (qr ≠ 0 → sum ≤ r → ownShareOf qr r sum = qr ∧ classOutcome qr r sum = .full)
      ∧ (qr ≠ 0 → r < sum → 0 < r → ownShareOf qr r sum = qr * r / sum ∧ classOutcome qr r sum = .prorated)
      ∧ (qr ≠ 0 → r < sum → r = 0 → ownShareOf qr r sum = 0 ∧ classOutcome qr r sum = .cut) := by
  unfold ownShareOf classOutcome memberShare
  refine ⟨fun h => ?_, fun h hle => ?_, fun h hlt hpos => ?_, fun h hlt h0 => ?_⟩
  · simp [h]
  · simp [h, hle]
  · simp [h, Nat.not_le.2 hlt, hpos]
  · subst h0
    simp [h, Nat.not_le.2 hlt]

/-- Settles O24. -/
theorem computationFollowsStages : Obligations.ComputationFollowsStages := by
  intro i hown r plants requests sum
  have hplants (f : Freshness) : plants f = i.entries.filterMap (offerAt f) := rfl
  have hrequests (k : Nat) : requests k = i.entries.filterMap (requestAt k) := rfl
  have hsum (k : Nat) : sum k = classSum i.entries i.ownClass i.qr k := (classSum_eq _ _ _ k).symm
  obtain ⟨hcap, hfresh, hstale, htransfer⟩ := computeShare_stageOne i
  refine ⟨computeShare_requestUsed i, hcap.trans (capacityOf_eq _), hfresh.trans (freshPlants_eq _),
    hstale.trans (stalePlants_eq _), fun hcls => htransfer.trans (transferPeers_eq hcls), fun hi => ?_, fun hi h0 => ?_,
    fun h => ?_, fun hi h0 => ?_⟩
  · rcases computeShare_cases i with ⟨-, h⟩ | ⟨hno, -⟩ | ⟨hno, -⟩
    · exact congrArg (·.outcome) h
    · exact absurd (hi.symm.trans hno) (by decide)
    · exact absurd (hi.symm.trans hno) (by decide)
  · rw [show r.freshPlants = _ from hfresh, show r.stalePlants = _ from hstale] at h0
    rcases computeShare_cases i with ⟨hyes, -⟩ | ⟨-, -, h⟩ | ⟨-, hne, -⟩
    · exact absurd (hyes.symm.trans hi) (by decide)
    · exact congrArg (·.outcome) h
    · exact absurd h0 hne
  · rw [show r.freshPlants = _ from hfresh, show r.stalePlants = _ from hstale] at h
    have hfallback : ∃ o, r = fallbackRecord i o := by
      rcases computeShare_cases i with ⟨-, he⟩ | ⟨-, -, he⟩ | ⟨hi, hne, -⟩
      · exact ⟨_, he⟩
      · exact ⟨_, he⟩
      · exact absurd (h.resolve_left (by simp [hi])) hne
    obtain ⟨o, ho⟩ := hfallback
    rw [ho]
    exact ⟨rfl, rfl, rfl, rfl, rfl, rfl, rfl, rfl⟩
  · rw [show r.freshPlants = _ from hfresh, show r.stalePlants = _ from hstale] at h0
    have hshared : r = sharedRecord i := by
      rcases computeShare_cases i with ⟨hyes, -⟩ | ⟨-, hz, -⟩ | ⟨-, -, he⟩
      · exact absurd (hyes.symm.trans hi) (by decide)
      · exact absurd hz h0
      · exact he
    rw [hshared]
    refine ⟨congrArg some (hsum 0).symm, congrArg some (hsum 1).symm, congrArg some (hsum 2).symm, congrArg some (hsum 3).symm,
      remainderAt (capacityOf i.entries) (classSum i.entries i.ownClass i.qr), _, rfl, fun k _ => ?_, rfl, rfl, ?_⟩
    · rw [hsum k]
      rfl
    · rw [hsum]
      obtain ⟨hzero, hfull, hprorated, hcut⟩ := ownShare_cases i.qr
        (remainderAt (capacityOf i.entries) (classSum i.entries i.ownClass i.qr) i.ownClass)
        (classSum i.entries i.ownClass i.qr i.ownClass)
      exact ⟨hzero, hfull, hprorated, hcut, rfl, decide_eq_true_iff⟩

/-! ### What the shares add up to (R59) -/

/-- The members of one class receive no more than the class leaves of the remainder it found (R58, R59). -/
theorem memberShares_sum_le (requests : List Nat) (r : Nat) :
    (requests.map (memberShare · r requests.sum)).sum + remainderAfter r requests.sum ≤ r := by
  unfold remainderAfter
  split
  next hle =>
    have hall : requests.map (memberShare · r requests.sum) = requests := by simp [memberShare, hle]
    rw [hall]
    omega
  next hlt =>
    have hprorated (l : List Nat) : (l.map (memberShare · r requests.sum)).sum * requests.sum ≤ l.sum * r := by
      induction l with
      | nil => simp
      | cons q rest ih =>
        have hq : memberShare q r requests.sum * requests.sum ≤ q * r := by
          rw [memberShare, if_neg hlt]
          exact Nat.div_mul_le_self _ _
        simp only [List.map_cons, List.sum_cons, Nat.add_mul]
        omega
    have hmul := hprorated requests
    rw [Nat.mul_comm] at hmul
    exact Nat.le_of_mul_le_mul_left hmul (by omega)

/-- The requests of class k, the own one first (R57). -/
def classRequests (entries : List PeerEntry) (ownClass qr k : Nat) : List Nat :=
  (if k = ownClass then qr else 0) :: entries.map (PeerEntry.requestIn k)

theorem classRequests_sum (entries : List PeerEntry) (ownClass qr k : Nat) :
    (classRequests entries ownClass qr k).sum = classSum entries ownClass qr k := by
  simp [classRequests, classSum, Nat.add_comm]

/-- What a transfer peer receives, by the class it is in (R58). -/
theorem memberShare_by_class (share : Nat → Nat → Nat) (hzero : ∀ k, share k 0 = 0) {e : PeerEntry}
    (hcls : ∀ p, e.part = .transfer p → p.cls ≤ 3) :
    (match e.part with
      | .transfer p => if e.counted = true then share p.cls p.qr else 0
      | .plant _ => 0)
      = share 0 (e.requestIn 0) + share 1 (e.requestIn 1) + share 2 (e.requestIn 2) + share 3 (e.requestIn 3) := by
  unfold PeerEntry.requestIn
  cases hp : e.part with
  | plant p => simp [hzero]
  | transfer p =>
    have := hcls p hp
    dsimp only
    by_cases hc : e.counted = true
    · obtain h | h | h | h : p.cls = 0 ∨ p.cls = 1 ∨ p.cls = 2 ∨ p.cls = 3 := by omega
      all_goals simp [hc, h, hzero]
    · simp [hc, hzero]

theorem ownShare_by_class (share : Nat → Nat → Nat) (hzero : ∀ k, share k 0 = 0) {ownClass : Nat} (h : ownClass ≤ 3) (qr : Nat) :
    share ownClass qr = share 0 (if 0 = ownClass then qr else 0) + share 1 (if 1 = ownClass then qr else 0)
      + share 2 (if 2 = ownClass then qr else 0) + share 3 (if 3 = ownClass then qr else 0) := by
  obtain rfl | rfl | rfl | rfl : ownClass = 0 ∨ ownClass = 1 ∨ ownClass = 2 ∨ ownClass = 3 := by omega
  all_goals simp [hzero]

/-- Settles O26: the members of each class receive at most what the class takes from the remainder, and the four classes
together at most the capacity figure. -/
theorem sharesFitCapacity : Obligations.SharesFitCapacity := by
  intro entries ownClass qr hown hcls sums found
  have hzero (k : Nat) : memberShare 0 (found k) (sums k) = 0 := memberShare_zero _ _
  have hclass (k : Nat) :
      (entries.map fun e => memberShare (e.requestIn k) (found k) (sums k)).sum
        + memberShare (if k = ownClass then qr else 0) (found k) (sums k) + found (k + 1) ≤ found k := by
    have h := memberShares_sum_le (classRequests entries ownClass qr k) (found k)
    have hsums : classSum entries ownClass qr k = sums k := rfl
    rw [classRequests_sum, hsums] at h
    simp only [classRequests, List.map_cons, List.map_map, List.sum_cons] at h
    have hcomp : ((memberShare · (found k) (sums k)) ∘ PeerEntry.requestIn k)
        = fun e => memberShare (e.requestIn k) (found k) (sums k) := rfl
    rw [hcomp] at h
    have hnext : found (k + 1) = remainderAfter (found k) (sums k) := rfl
    omega
  have hmembers := List.map_congr_left (l := entries) fun e he =>
    memberShare_by_class (fun k q => memberShare q (found k) (sums k)) hzero (hcls e he)
  have howns := ownShare_by_class (fun k q => memberShare q (found k) (sums k)) hzero hown qr
  rw [ownShareOf_eq, howns]
  refine Nat.le_trans (Nat.le_of_eq (congrArg (fun l => l.sum + _) hmembers)) ?_
  rw [List.sum_map_add, List.sum_map_add, List.sum_map_add]
  have hfirst : found 0 = capacityOf entries := rfl
  have h0 : _ + _ + found 1 ≤ found 0 := hclass 0
  have h1 : _ + _ + found 2 ≤ found 1 := hclass 1
  have h2 : _ + _ + found 3 ≤ found 2 := hclass 2
  have h3 : _ + _ + found 4 ≤ found 3 := hclass 3
  omega

end Sys2Proof.Machine
end

section
/-! The Peer Table (spec/01): ageing, the acceptance sequence of a report, eviction and refusal, what the table reads of a
report, and ALARM frames. -/

namespace Sys2Proof.Machine

variable {s t u : State} {number : Nat}

/-! ### The end of an event that leaves the Transmit Queue as it stands -/

/-- What `Settled` reads of a state stands in u as in s. -/
theorem StationOk.exec_of_replyValues {c : Instr} (hs : StationOk s) (hc : Machine.exec c s = done (settle u))
    (h : u.replyValues = s.replyValues) : Machine.exec c s = .next u := by
  simp only [State.replyValues, Prod.mk.injEq] at h
  obtain ⟨hin, hwait, hdue⟩ := h
  obtain ⟨hrest, hidle⟩ := hs.settled
  rw [hc, settle_of_settled ⟨hdue.trans hrest, by rw [hin, hwait]; exact hidle⟩]
  rfl

theorem noticeIf_eq (b : Bool) (s : State) : noticeIf b s = s.noticed b := by
  unfold noticeIf shareTrigger State.noticed
  cases b with
  | false => rfl
  | true =>
    cases h : s.speaking && s.isTransfer with
    | true => simp [h]
    | false =>
      simp only [h, Bool.true_and, Bool.false_eq_true, if_true, if_false]
      rfl

theorem State.noticed_replyValues (s : State) (b : Bool) : (s.noticed b).replyValues = s.replyValues := rfl

/-! ### Ageing (R18, R19) -/

/-- The freshness after an expiry (R19). -/
theorem freshnessAt_cases {d : Descriptor} (hd : d.staleTime < d.lostTime) {e : PeerEntry}
    (he : e.freshness = freshnessOfAge d e.age) :
    (e.age + 1 = d.staleTime → freshnessAt d (e.age + 1) e.freshness = .stale)
      ∧ (e.age + 1 = d.lostTime → freshnessAt d (e.age + 1) e.freshness = .lost)
      ∧ (e.age + 1 ≠ d.staleTime → e.age + 1 ≠ d.lostTime → freshnessAt d (e.age + 1) e.freshness = e.freshness)
      ∧ (freshnessAt d (e.age + 1) e.freshness ≠ e.freshness ↔ e.age + 1 = d.staleTime ∨ e.age + 1 = d.lostTime) := by
  rw [he, freshnessAt_succ hd]
  unfold freshnessOfAge
  by_cases h1 : e.age < d.staleTime
  · by_cases h2 : e.age + 1 < d.staleTime
    · simp [h1, h2]
      omega
    · have h3 : e.age + 1 < d.lostTime := by omega
      simp [h1, h2, h3]
      omega
  · have h2 : ¬ e.age + 1 < d.staleTime := by omega
    by_cases h3 : e.age < d.lostTime
    · by_cases h4 : e.age + 1 < d.lostTime
      · simp [h1, h2, h3, h4]
        omega
      · simp [h1, h2, h3, h4]
        omega
    · have h4 : ¬ e.age + 1 < d.lostTime := by omega
      simp [h1, h2, h3, h4]
      omega

theorem ageTimerExpiry_of_running {e : PeerEntry} (he : findEntry number s.peers.entries = some e) (hact : s.active = true)
    (hrun : e.ageTimer.isRunning = true) :
    ageTimerExpiry number s = (setEntries (replaceEntry (agedEntry s.config e) s.peers.entries) s).noticed
      (decide (e.membership = .inSector) && decide ((agedEntry s.config e).freshness ≠ e.freshness)) := by
  unfold ageTimerExpiry
  rw [he]
  simp only [hact, hrun, Bool.and_self, if_true]
  exact noticeIf_eq _ _

/-- Settles O27. -/
theorem ageTimerAgesEntry : Obligations.AgeTimerAgesEntry := by
  intro number s hs
  obtain ⟨-, hasc, hok, hempty⟩ := hs.eventOk.table
  refine ⟨fun e he hnum hage => ?_, fun hold => ?_⟩
  · subst hnum
    have hact : s.active = true := by
      by_contra hno
      rw [hempty (by simpa using hno)] at he
      exact nomatch he
    obtain ⟨-, hown, hmem, hle, htimer, hfresh, -⟩ := hok e he
    obtain ⟨-, -, -, horder, -⟩ := hs.eventOk.descriptorOk hact
    obtain ⟨hstale, hlost, hsame, hmoved⟩ := freshnessAt_cases horder hfresh
    have hrun : e.ageTimer.isRunning = true := by rw [htimer]; simpa using hage
    refine ⟨agedEntry s.config e, ?_, hstale, hlost, hsame, ?_⟩
    · have htimer' : (if e.age + 1 < 65535 then startTenths Config.oneSecond else .stopped)
          = if e.age + 1 = 65535 then Timer.stopped else .running 10 := by
        by_cases h : e.age + 1 = 65535
        · rw [if_pos h, if_neg (by omega)]
        · rw [if_neg h, if_pos (by omega)]
          rfl
      unfold agedEntry
      rw [htimer']
    · refine hs.exec_of_replyValues (c := .ageTimerExpiry e.number) ?_ rfl
      have hflag : (decide (e.membership = .inSector) && decide ((agedEntry s.config e).freshness ≠ e.freshness))
          = decide (e.membership = .inSector ∧ (e.age + 1 = s.config.staleTime ∨ e.age + 1 = s.config.lostTime)) := by
        rw [← Bool.decide_and, decide_eq_decide]
        exact and_congr_right fun _ => hmoved
      rw [exec, execAgeTimerExpiry, ageTimerExpiry_of_running (findEntry_of_mem hasc he) hact hrun, hflag]
      rfl
  · refine hs.exec_self (c := .ageTimerExpiry number) rfl ?_
    unfold ageTimerExpiry
    split
    next e hfind =>
      obtain ⟨he, hnum⟩ := findEntry_eq_some hfind
      obtain ⟨-, -, -, -, htimer, -⟩ := hok e he
      rw [hold e he hnum] at htimer
      exact if_neg (by simp [htimer])
    next => rfl

/-! ### Taking a report (R12 to R17) -/

section TakeReport

variable {f : Frame} {b : ReportBody} {rest : List Frame}

theorem exec_takeStationReport_of_atFront (hf : AtFront .stationReport f rest s) (hact : s.active = true) :
    exec .takeStationReport s = done (settle (takeReport f (s.withoutFront rest))) := by
  have htake : takeStationReport s = takeReport f (s.withoutFront rest) := by
    simp [takeStationReport, takeFront_of_atFront hf hact]
  rw [exec, execTakeStationReport, htake]

theorem active_of_atFront {kind : Kind} (hs : StationOk s) (hf : AtFront kind f rest s) : s.active = true := by
  by_contra hno
  have hempty := hs.eventOk.queues.rxRest (by simpa using hno)
  exact nomatch hempty.symm.trans hf.1

theorem takeReport_of_body (hown : f.source.toNat ≠ s.config.number)
    (hnum : 1 ≤ f.source.toNat ∧ f.source.toNat ≤ 239) (hb : readReport f = some b) :
    takeReport f s = placeReport f.source.toNat f b s := by
  unfold takeReport
  rw [hb]
  dsimp only
  rw [if_neg hown, if_neg (by omega)]

/-- A well-formed report of a peer is placed in the table (R12 to R14). -/
theorem exec_takeStationReport (hf : ReportAtFront f b rest s) :
    exec .takeStationReport s = done (settle (placeReport f.source.toNat f b (s.withoutFront rest))) := by
  obtain ⟨hfront, hact, hown, hnum, hb⟩ := hf
  rw [exec_takeStationReport_of_atFront hfront hact, takeReport_of_body (s := s.withoutFront rest) hown hnum hb]

/-- The entry after the acceptance of a report (R17). -/
theorem acceptedEntry_eq (number : Nat) (membership : Membership) (count : Nat) (f : Frame) (b : ReportBody) :
    acceptedEntry number membership count f b = EntryFrom number membership count f b := rfl

theorem acceptInto_eq (e : PeerEntry) (count : Nat) (f : Frame) (b : ReportBody) (s : State) :
    acceptInto e count f b s = (s.setPeers { s.peers with
      entries := s.peers.entries.map fun x =>
        if x.number = e.number then EntryFrom e.number e.membership count f b else x }).noticed
      (decide (e.membership = .inSector)) := noticeIf_eq _ _

theorem createIn_eq (entries : List PeerEntry) (number : Nat) (f : Frame) (b : ReportBody) (s : State) :
    createIn entries number f b s = (s.setPeers { s.peers with
      entries := insertEntry (EntryFrom number (membershipOf s.config number) 0 f b) entries }).noticed
      (decide (membershipOf s.config number = .inSector)) := noticeIf_eq _ _

/-- The distance of a report's sequence number from the last one (R16). -/
theorem sequence_sub_toNat (a b : Byte) : (a - b).toNat = (a.toNat + 256 - b.toNat) % 256 := by
  rw [BitVec.toNat_sub]
  omega

section Existing

variable {e : PeerEntry} (hfind : findEntry number s.peers.entries = some e)
include hfind

theorem placeReport_of_role (hrole : RolePart.role e.part ≠ RolePart.role b.part) :
    placeReport number f b s = acceptInto e 0 f b s := by
  rw [placeReport, hfind]
  exact if_pos hrole

theorem placeReport_of_lost_or_start (hrole : RolePart.role e.part = RolePart.role b.part)
    (h : e.freshness = .lost ∨ f.start = true) : placeReport number f b s = acceptInto e e.acceptedCount f b s := by
  rw [placeReport, hfind]
  dsimp only
  rw [if_neg (not_not.2 hrole), if_pos h]

theorem placeReport_of_window (hrole : RolePart.role e.part = RolePart.role b.part)
    (h : ¬(e.freshness = .lost ∨ f.start = true)) :
    placeReport number f b s =
      if (f.sequence - e.lastSequence).toNat = 0 then countDuplicate s
      else if (f.sequence - e.lastSequence).toNat ≤ 127 then acceptInto e e.acceptedCount f b s else countOutOfOrder s := by
  rw [placeReport, hfind]
  dsimp only
  rw [if_neg (not_not.2 hrole), if_neg h]

end Existing

/-- Settles O28. -/
theorem reportIntoExistingEntry : Obligations.ReportIntoExistingEntry := by
  intro f b rest e s hs hf he hnum taken accepted d
  have hfind : findEntry f.source.toNat taken.peers.entries = some e := by
    rw [← hnum]
    exact findEntry_of_mem hs.ascending he
  have hend (u : State) (hu : placeReport f.source.toNat f b taken = u) (hsame : u.replyValues = s.replyValues) :
      exec .takeStationReport s = .next u := by
    refine hs.exec_of_replyValues ?_ hsame
    rw [exec_takeStationReport hf, ← hu]
  have haccept (count : Nat) (h : placeReport f.source.toNat f b taken = acceptInto e count f b taken) :
      exec .takeStationReport s = .next (accepted count) := hend _ (h.trans (acceptInto_eq e count f b taken)) rfl
  have hd : (f.sequence - e.lastSequence).toNat = d := sequence_sub_toNat _ _
  refine ⟨fun hrole => haccept 0 (placeReport_of_role hfind hrole),
    fun hrole h => haccept _ (placeReport_of_lost_or_start hfind hrole h), fun hrole hlost hstart => ?_⟩
  have hwindow := placeReport_of_window (b := b) (f := f) hfind hrole (by simp [hlost, hstart])
  rw [hd] at hwindow
  refine ⟨fun hlo hhi => haccept _ ?_, fun h0 => hend _ ?_ rfl, fun hhi => hend _ ?_ rfl⟩
  · rw [hwindow, if_neg (by omega), if_pos hhi]
  · rw [hwindow, if_pos h0]
    rfl
  · rw [hwindow, if_neg (by omega), if_neg (by omega)]
    rfl

theorem membershipOf_eq_inSector_iff (d : Descriptor) (number : Nat) :
    membershipOf d number = .inSector ↔ (∀ r ∈ d.sectors, r.used = false)
      ∨ ∃ r ∈ d.sectors, r.used = true ∧ r.base ≤ number ∧ number ≤ r.limit := by
  unfold membershipOf
  simp only [ite_eq_left_iff, reduceCtorEq, imp_false, not_not, Bool.or_eq_true, List.isEmpty_iff, List.filter_eq_nil_iff,
    List.any_eq_true, List.mem_filter, Bool.and_eq_true, decide_eq_true_iff, Bool.not_eq_true, and_assoc]

/-- Settles O29. -/
theorem reportCreatesEntry : Obligations.ReportCreatesEntry := by
  intro f b rest s hs hf hnew hroom
  obtain ⟨before, after, hsplit, hins, hbefore, hafter⟩ :=
    insertEntry_split (EntryFrom f.source.toNat (membershipOf s.config f.source.toNat) 0 f b) hs.ascending hnew
  refine ⟨_, membershipOf s.config f.source.toNat, before, after, ?_, membershipOf_eq_inSector_iff _ _, hsplit, hbefore, hafter,
    rfl⟩
  refine hs.exec_of_replyValues ?_ rfl
  have hplace : placeReport f.source.toNat f b (s.withoutFront rest)
      = createIn s.peers.entries f.source.toNat f b (s.withoutFront rest) := by
    have hnone : findEntry f.source.toNat (s.withoutFront rest).peers.entries = none := findEntry_eq_none_iff.2 hnew
    rw [placeReport, hnone]
    exact if_pos hroom
  rw [exec_takeStationReport hf, hplace, createIn_eq, ← hins]
  rfl

/-- Settles O30. -/
theorem fullTableEvictsOrRefuses : Obligations.FullTableEvictsOrRefuses := by
  intro f b rest s hs hf hnew hfull
  have hasc := hs.ascending
  have hplace : placeReport f.source.toNat f b (s.withoutFront rest)
      = match victim s.peers.entries with
        | some v => createIn (removeEntry v.number s.peers.entries) f.source.toNat f b (s.withoutFront rest)
        | none => refuseReport (s.withoutFront rest) := by
    have hnone : findEntry f.source.toNat (s.withoutFront rest).peers.entries = none := findEntry_eq_none_iff.2 hnew
    have hnot : ¬ s.peers.entries.length < Config.peerCapacity := by rw [hfull]; decide
    rw [placeReport, hnone]
    exact if_neg hnot
  refine ⟨fun v hv => ?_, fun hno => ?_, ?_⟩
  · have hvictim : victim s.peers.entries = some v := by
      rcases victim_cases hasc with ⟨-, hno⟩ | ⟨w, hw, hwv⟩
      · obtain ⟨hmem, hlost | ⟨-, hout, -⟩⟩ := hv
        · exact absurd hlost.1 (hno v hmem).2
        · exact absurd (hout.symm.trans (hno v hmem).1) (by decide)
      · rw [hw, hwv.unique hasc hv]
    have hremoved : removeEntry v.number s.peers.entries = s.peers.entries.filter (fun e => e.number ≠ v.number) := by
      unfold removeEntry
      exact List.filter_congr fun e _ => by simp [bne, BEq.beq]
    obtain ⟨before, after, hsplit, hins, hbefore, hafter⟩ :=
      insertEntry_split (EntryFrom f.source.toNat (membershipOf s.config f.source.toNat) 0 f b) (hasc.removeEntry v.number)
        fun x hx => hnew x (mem_removeEntry.1 hx).1
    refine ⟨before, after, hremoved ▸ hsplit, hbefore, hafter, ?_⟩
    refine hs.exec_of_replyValues ?_ rfl
    rw [exec_takeStationReport hf, hplace, hvictim, ← hins]
    dsimp only
    rw [createIn_eq]
    rfl
  · have hvictim : victim s.peers.entries = none := by
      rcases victim_cases hasc with ⟨hnone, -⟩ | ⟨w, -, hw, hlost | ⟨-, hout, -⟩⟩
      · exact hnone
      · exact absurd hlost.1 (hno w hw).2
      · exact absurd (hout.symm.trans (hno w hw).1) (by decide)
    refine ⟨settle (refuseReport (s.withoutFront rest)), ?_, latchSet hs.settled hs.waiting_reports⟩
    rw [exec_takeStationReport hf, hplace, hvictim]
    rfl
  · rcases victim_cases hasc with ⟨-, hno⟩ | ⟨v, -, hv⟩
    · exact .inr hno
    · exact .inl ⟨v, hv⟩

end TakeReport

/-! ### What the table reads of a report (R7 to R9, R178) -/

section ReportBody

variable {f : Frame} {b : ReportBody} {rest : List Frame}

theorem readPeerMode_eq_some_iff {c : Byte} {m : PeerMode} :
    readPeerMode c = some m ↔ (c = 1#8 ∧ m = .running) ∨ (c = 2#8 ∧ m = .hold) := by
  unfold readPeerMode
  split
  next h => cases m <;> simp [h]
  next h =>
    split
    next h2 => cases m <;> simp [h2]
    next h2 => simp [h, h2]

theorem readShareOutcome_code (o : ShareOutcome) : readShareOutcome o.code = some o := by cases o <;> rfl

theorem exists_readShareOutcome {c : Byte} (h : c.toNat ≤ 4) : ∃ o, readShareOutcome c = some o ∧ o.code = c := by
  have hc : c = BitVec.ofNat 8 c.toNat := by simp
  obtain h | h | h | h | h : c.toNat = 0 ∨ c.toNat = 1 ∨ c.toNat = 2 ∨ c.toNat = 3 ∨ c.toNat = 4 := by omega
  all_goals rw [hc, h]
  · exact ⟨.full, rfl, rfl⟩
  · exact ⟨.prorated, rfl, rfl⟩
  · exact ⟨.cut, rfl, rfl⟩
  · exact ⟨.isolated, rfl, rfl⟩
  · exact ⟨.noOffer, rfl, rfl⟩

theorem readShareOutcome_le {c : Byte} {o : ShareOutcome} (h : readShareOutcome c = some o) : c.toNat ≤ 4 := by
  unfold readShareOutcome at h
  (repeat' split at h) <;> simp_all

theorem mandatory_of_present {top : Nat} {w : HalfWord} (h : w ≠ 0xFFFF#16) : mandatory top w = some (min top w.toNat) := by
  simp [mandatory, readU16Opt, h]

theorem mandatory_eq_some {top n : Nat} {w : HalfWord} (h : mandatory top w = some n) : w ≠ 0xFFFF#16 := by
  intro hw
  simp [mandatory, readU16Opt, hw] at h

theorem readMargin_absent : readMargin 0x8000#16 = none := rfl

theorem readMargin_of_present {w : HalfWord} (h : w ≠ 0x8000#16) :
    readMargin w = some (max (-3000) (min 3000 w.toInt)) := by
  simp [readMargin, readS16Opt, h, clampInt]

/-- The body of a transfer station's report is read when its parts are (R7, R9). -/
theorem readReport_transfer {mode : PeerMode} {p : TransferPart} (hg : f.groupCount = 5#8) (hr : f.senderRole = 1#8)
    (hm : readPeerMode f.senderMode = some mode) (hp : readTransferPart f = some p) :
    readReport f = some ⟨mode, (Group.c1 (f.group 4)).getLsbD 4, readWord (f.group 4), .transfer p⟩ := by
  simp [readReport, hg, hr, hm, hp, readRole]

theorem readReport_plant {mode : PeerMode} {p : PlantPart} (hg : f.groupCount = 5#8) (hr : f.senderRole = 2#8)
    (hm : readPeerMode f.senderMode = some mode) (hp : readPlantPart f = some p) :
    readReport f = some ⟨mode, (Group.c1 (f.group 4)).getLsbD 0, readWord (f.group 4), .plant p⟩ := by
  simp [readReport, hg, hr, hm, hp, readRole]

/-- A report that is read is well-formed (R9). -/
theorem readReport_eq_some (h : readReport f = some b) :
    f.groupCount = 5#8 ∧ (f.senderMode = 1#8 ∨ f.senderMode = 2#8)
      ∧ ((f.senderRole = 1#8 ∧ (Group.c4 (f.group 3)).toNat ≤ 4 ∧ Group.high (f.group 0) ≠ 0xFFFF#16
            ∧ Group.low (f.group 0) ≠ 0xFFFF#16 ∧ Group.high (f.group 1) ≠ 0xFFFF#16)
          ∨ (f.senderRole = 2#8 ∧ Group.high (f.group 0) ≠ 0xFFFF#16 ∧ Group.low (f.group 0) ≠ 0xFFFF#16)) := by
  simp only [readReport, Option.bind_eq_bind, Option.bind_eq_some_iff] at h
  obtain ⟨mode, hmode, role, hrole, h⟩ := h
  have hm : f.senderMode = 1#8 ∨ f.senderMode = 2#8 := by
    rcases readPeerMode_eq_some_iff.1 hmode with ⟨h, -⟩ | ⟨h, -⟩
    · exact .inl h
    · exact .inr h
  split at h
  · exact nomatch h
  next hg =>
    refine ⟨not_not.1 hg, hm, ?_⟩
    split at h
    next =>
      obtain ⟨p, hp, -⟩ := Option.bind_eq_some_iff.1 h
      simp only [readTransferPart, Option.bind_eq_bind, Option.bind_eq_some_iff] at hp
      obtain ⟨qr, hqr, grant, hgrant, valve, hvalve, cls, -, outcome, houtcome, -⟩ := hp
      exact .inl ⟨BitVec.toNat_inj.1 (readRole_eq_some_transfer.1 hrole), readShareOutcome_le houtcome, mandatory_eq_some hqr,
        mandatory_eq_some hgrant, mandatory_eq_some hvalve⟩
    next =>
      obtain ⟨p, hp, -⟩ := Option.bind_eq_some_iff.1 h
      simp only [readPlantPart, Option.bind_eq_bind, Option.bind_eq_some_iff] at hp
      obtain ⟨offer, hoffer, head, hhead, -⟩ := hp
      exact .inr ⟨BitVec.toNat_inj.1 (readRole_eq_some_plant.1 hrole), mandatory_eq_some hoffer, mandatory_eq_some hhead⟩

/-- Settles O31. -/
theorem reportsDiscarded : Obligations.ReportsDiscarded := by
  intro f rest s hs hf
  have hact := active_of_atFront hs hf
  have hexec := exec_takeStationReport_of_atFront hf hact
  obtain ⟨hnumber, -⟩ := hs.eventOk.descriptorOk hact
  have hdiscard (h : takeReport f (s.withoutFront rest) = s.withoutFront rest) :
      exec .takeStationReport s = .next (s.withoutFront rest) := by
    refine hs.exec_of_replyValues ?_ rfl
    rw [hexec, h]
  refine ⟨fun hown => ?_, fun hnum => hdiscard ?_, fun hown hbad => hdiscard ?_⟩
  · refine ⟨settle (setLatch .numberClash (s.withoutFront rest)), ?_, latchSet hs.settled hs.waiting_reports⟩
    rw [hexec, show takeReport f (s.withoutFront rest) = setLatch .numberClash (s.withoutFront rest) from if_pos hown]
    rfl
  · have hown : f.source.toNat ≠ s.config.number := by omega
    have hno : f.source.toNat = 0 ∨ 240 ≤ f.source.toNat := by omega
    exact (if_neg hown).trans (if_pos hno)
  · have hnone : readReport f = none := by
      cases hb : readReport f with
      | none => rfl
      | some b =>
        exfalso
        obtain ⟨hg, hm, hparts⟩ := readReport_eq_some hb
        have htransfer (hr : f.senderRole = 1#8) := hparts.resolve_right fun h => absurd (h.1.symm.trans hr) (by decide)
        have hplant (hr : f.senderRole = 2#8) := hparts.resolve_left fun h => absurd (h.1.symm.trans hr) (by decide)
        rcases hbad with h | ⟨h1, h2⟩ | ⟨h1, h2⟩ | ⟨hr, hcode⟩ | ⟨hr, habsent⟩ | ⟨hr, habsent⟩
        · exact h hg
        · rcases hparts with ⟨hr, -⟩ | ⟨hr, -⟩
          · exact h1 hr
          · exact h2 hr
        · exact hm.elim h1 h2
        · obtain ⟨-, hle, -⟩ := htransfer hr
          omega
        · obtain ⟨-, -, hqr, hgrant, hvalve⟩ := htransfer hr
          exact habsent.elim hqr (·.elim hgrant hvalve)
        · obtain ⟨-, hoffer, hhead⟩ := hplant hr
          exact habsent.elim hoffer hhead
    refine (if_neg hown).trans ?_
    rw [hnone]
    exact ite_self _

theorem readWord_getLsbD (g : Group) {k : Nat} (hk : k < 22) : (readWord g).getLsbD k = g.getLsbD k := by
  simp [readWord, hk]

theorem readCritical_eq_some_iff {w : HalfWord} {n : Nat} : readCritical w = some n ↔ w.toNat = n ∧ 1 ≤ n ∧ n ≤ 239 := by
  unfold readCritical readU16Opt
  by_cases hw : w = 0xFFFF#16
  · subst hw
    simp
    omega
  · rw [if_neg hw]
    dsimp only
    split
    · simp
      omega
    · simp
      omega

/-- Settles O32. -/
theorem reportBodyRead : Obligations.ReportBodyRead := by
  have hmode {f : Frame} (hm : f.senderMode = 1#8 ∨ f.senderMode = 2#8) :
      ∃ mode, readPeerMode f.senderMode = some mode ∧ (mode = .hold ↔ f.senderMode = 2#8) := by
    rcases hm with h | h <;> rw [h]
    · exact ⟨.running, rfl, by simp⟩
    · exact ⟨.hold, rfl, by simp⟩
  refine ⟨fun f hg hr hm hcode hqr hgrant hvalve hl hcls => ?_, fun f hg hr hm hoffer hhead => ?_⟩
  · obtain ⟨mode, hreadMode, hhold⟩ := hmode hm
    obtain ⟨o, ho, hocode⟩ := exists_readShareOutcome hcode
    have hclass : readClass (Group.c3 (f.group 3)) = some (min 3 (Group.c3 (f.group 3)).toNat) := by simp [readClass, hcls]
    have hlimiter : limiterMalformed (Group.high (f.group 3)) = false := by simp [limiterMalformed, hl]
    have hpart := readReport_transfer (f := f) hg hr hreadMode (by
      simp only [readTransferPart, mandatory_of_present hqr, mandatory_of_present hgrant, mandatory_of_present hvalve,
        hclass, ho, hlimiter, Option.bind_eq_bind, Option.bind_some, Bool.false_eq_true, if_false]
      rfl)
    refine ⟨_, _, hpart, rfl, hhold, rfl, rfl, rfl, fun h => ?_, fun h => readMargin_of_present h, rfl, hocode, rfl, rfl, rfl, rfl, rfl,
      fun k hk => readWord_getLsbD _ hk⟩
    rw [h]
    rfl
  · obtain ⟨mode, hreadMode, hhold⟩ := hmode hm
    have hpart := readReport_plant (f := f) hg hr hreadMode (by
      simp only [readPlantPart, mandatory_of_present hoffer, mandatory_of_present hhead, Option.bind_eq_bind, Option.bind_some]
      rfl)
    refine ⟨_, _, hpart, rfl, hhold, rfl, rfl, fun h => ?_, fun h => mandatory_of_present h, fun n => readCritical_eq_some_iff,
      fun h => ?_, fun h => readMargin_of_present h, rfl, fun k hk => readWord_getLsbD _ hk⟩
    · rw [h]
      rfl
    · rw [h]
      rfl

end ReportBody

/-! ### ALARM frames (R22) -/

/-- Settles O33. -/
theorem alarmFrameReplacesWord : Obligations.AlarmFrameReplacesWord := by
  intro f rest s hs hf
  have hact := active_of_atFront hs hf
  have hexec : exec .takeAlarmFrame s = done (settle (takeAlarm f (s.withoutFront rest))) := by
    have htake : takeAlarmFrame s = takeAlarm f (s.withoutFront rest) := by
      simp [takeAlarmFrame, takeFront_of_atFront hf hact]
    rw [exec, execTakeAlarmFrame, htake]
  have hend (u : State) (h : takeAlarm f (s.withoutFront rest) = u) (hsame : u.replyValues = s.replyValues) :
      exec .takeAlarmFrame s = .next u := by
    refine hs.exec_of_replyValues ?_ hsame
    rw [hexec, h]
  refine ⟨fun hown => ?_, fun hown hlo hhi hg => hend _ ?_ rfl, fun hown hbad => hend _ ?_ rfl⟩
  · refine ⟨settle (setLatch .numberClash (s.withoutFront rest)), ?_, latchSet hs.settled hs.waiting_reports⟩
    rw [hexec, show takeAlarm f (s.withoutFront rest) = setLatch .numberClash (s.withoutFront rest) from if_pos hown]
    rfl
  · have hno : ¬(f.source.toNat = 0 ∨ 240 ≤ f.source.toNat ∨ f.groupCount ≠ 1#8) := by
      rintro (h | h | h)
      · omega
      · omega
      · exact h hg
    exact (if_neg hown).trans (if_neg hno)
  · refine (if_neg hown).trans ?_
    by_cases hno : f.source.toNat = 0 ∨ 240 ≤ f.source.toNat ∨ f.groupCount ≠ 1#8
    · exact if_pos hno
    · have hnone : ∀ e ∈ s.peers.entries, e.number ≠ f.source.toNat := by
        rcases hbad with h | h | h | h
        · exact absurd (.inl h) hno
        · exact absurd (.inr (.inl h.1)) hno
        · exact absurd (.inr (.inr h)) hno
        · exact h
      have hsame : setWordOf f.source.toNat (readWord (f.group 0)) s.peers.entries = s.peers.entries := by
        have hid := List.map_congr_left (l := s.peers.entries) (f := fun e =>
          if e.number = f.source.toNat then { e with word := readWord (f.group 0) } else e) (g := id)
          fun e he => if_neg (hnone e he)
        rw [setWordOf, hid, List.map_id]
      rw [if_neg hno]
      show setEntries (setWordOf f.source.toNat (readWord (f.group 0)) s.peers.entries) (s.withoutFront rest) = _
      rw [hsame]
      rfl

end Sys2Proof.Machine
end

section
/-! Taking a command (spec/10): the discards, the admission checks in their order, the refusal, and the commands whose
effect at its block is one write. -/

namespace Sys2Proof.Machine

variable {s t u : State} {f : Frame} {rest : List Frame}

/-! ### The command events (R162) -/

/-- The event of a kind of command takes the frame at the front, whatever is done with an admitted one. -/
theorem eventOf_commandEvent {kind : Kind} {order : OfferOrder} {c : Instr} (h : commandEvent order kind = some c) :
    ∃ admitted, eventOf c = takeCommand kind admitted := by
  cases kind <;> cases h
  all_goals exact ⟨_, rfl⟩

/-- Settles O34. -/
theorem commandsDiscardedBeforeChecks : Obligations.CommandsDiscardedBeforeChecks := by
  intro kind order c f rest s hs hc hf
  obtain ⟨admitted, hevent⟩ := eventOf_commandEvent hc
  have hact := active_of_atFront hs hf
  have hexec : exec c s = .next (settle (handleCommand kind admitted f (s.withoutFront rest))) := by
    rw [hs.exec_event, hevent, takeCommand_of_atFront hf hact]
  have hdiscard (h : handleCommand kind admitted f (s.withoutFront rest) = s.withoutFront rest) :
      exec c s = .next (s.withoutFront rest) := by
    rw [hexec, h]
    exact congrArg _ (settle_of_settled (s := s.withoutFront rest) hs.settled)
  refine ⟨fun hm => hdiscard (handleCommand_of_joining hm), fun hspeak hown => ?_, fun hspeak hown hd hk => ?_⟩
  · refine ⟨_, hexec, ?_⟩
    rw [handleCommand_of_own_number (s := s.withoutFront rest) (ne_joining_of_speaking hspeak) hown]
    exact latchSet (s := s.withoutFront rest) hs.settled hs.waiting_reports
  · exact hdiscard (handleCommand_of_broadcast (s := s.withoutFront rest) (ne_joining_of_speaking hspeak) hown ⟨hd, hk⟩)

/-- What the offer of a reply that is no RESTART's makes of a settled station (R165). -/
theorem answered_replyTo (hu : Settled u) (hc : u.line.waiting.countP TxEntry.isReport ≤ 1) (f : Frame) (body : List Group) :
    Answered f ⟨f.source, f.sequence, body, false⟩ u (settle (replyTo f false body u)) :=
  answered hu hc fun _ => rfl

/-- Settles O36. -/
theorem refusedCommandChangesNothing : Obligations.RefusedCommandChangesNothing := by
  intro kind order c f rest reason s hs hc hf hg hreason hne
  obtain ⟨admitted, hevent⟩ := eventOf_commandEvent hc
  refine ⟨_, hs.exec_event c, ?_⟩
  rw [hevent, takeCommand_of_refused hf hg (hreason ▸ hne), hreason]
  exact answered_replyTo (u := countRefused (s.withoutFront rest)) hs.settled hs.waiting_reports f _

/-! ### The admission checks (R163, R164) -/

section Admission

variable {kind : Kind}

theorem malformedCommand_iff : malformedCommand kind f = true ↔ f.groupCount.toNat ≠ bodyGroupCount kind
    ∨ (1 ≤ f.source.toNat ∧ f.source.toNat ≤ 239 ∧ f.senderRole ≠ 1#8 ∧ f.senderRole ≠ 2#8) := by
  have hrole : (readRole f.senderRole).isNone = true ↔ f.senderRole ≠ 1#8 ∧ f.senderRole ≠ 2#8 := by
    unfold readRole
    split
    next h => simp [h]
    next h =>
      split
      next h2 => simp [h2]
      next h2 => simp [h, h2]
  simp only [malformedCommand, Bool.or_eq_true, Bool.and_eq_true, decide_eq_true_iff, hrole, and_assoc]

theorem barredCommand_iff (d : Descriptor) : barredCommand d kind = true ↔ kind.code ∈ d.barred := by
  simp [barredCommand]

theorem lockedKind_iff : lockedKind kind = true ↔ kind ∈ [.limitBlock, .limitCancel, .hold, .forget, .restart] := by
  cases kind <;> simp [lockedKind]

theorem transferKind_iff : transferKind kind = true ↔ kind ∈ [.limitBlock, .limitCancel, .shed] := by
  cases kind <;> simp [transferKind]

theorem readingKind_iff : readingKind kind = true ↔ kind = .readView ∨ kind = .readCounters := by
  cases kind <;> simp [readingKind]

theorem permittedCommand_iff (d : Descriptor) :
    permittedCommand d kind f = true ↔ (kind = .readView ∨ kind = .readCounters)
      ∨ (let tool := decide (240 ≤ f.source.toNat ∧ f.source.toNat ≤ 254)
         let set := d.permissions.getD (kind.code.toNat - 4) 0#8
         (tool = true ∧ set.getLsbD 2 = true) ∨ (tool = false ∧ f.senderRole = 1#8 ∧ set.getLsbD 0 = true)
          ∨ (tool = false ∧ f.senderRole = 2#8 ∧ set.getLsbD 1 = true)) := by
  rw [permittedCommand, Bool.or_eq_true, readingKind_iff]
  refine or_congr_right ?_
  unfold senderRoleOf
  by_cases ht : 240 ≤ f.source.toNat ∧ f.source.toNat ≤ 254
  · simp [ht, SenderRole.bit]
  · unfold readRole
    by_cases h1 : f.senderRole = 1#8
    · simp [ht, h1, SenderRole.bit]
    · by_cases h2 : f.senderRole = 2#8
      · simp [ht, h2, SenderRole.bit]
      · simp [ht, h1, h2]

theorem readBlockMode_eq_some_iff {c : Byte} {m : BlockMode} :
    readBlockMode c = some m ↔ (c = 1#8 ∧ m = .single) ∨ (c = 2#8 ∧ m = .repeating) ∨ (c = 3#8 ∧ m = .chain) := by
  unfold readBlockMode
  by_cases h1 : c = 1#8
  · cases m <;> simp [h1]
  · by_cases h2 : c = 2#8
    · cases m <;> simp [h2]
    · by_cases h3 : c = 3#8
      · cases m <;> simp [h3]
      · simp [h1, h2, h3]

theorem readBlock_eq_some_iff {b : Block} : readBlock f = some b ↔
    readBlockMode (Group.c1 (f.group 1)) = some b.mode ∧ (Group.low (f.group 0)).toNat ≠ 0
      ∧ b.limit = min 20000 (Group.high (f.group 0)).toNat ∧ b.duration = (Group.low (f.group 0)).toNat := by
  simp only [readBlock, Option.bind_eq_bind, Option.bind_eq_some_iff]
  constructor
  · rintro ⟨mode, hmode, h⟩
    split at h
    · exact nomatch h
    next hne =>
      obtain rfl := Option.some.inj h
      exact ⟨hmode, hne, rfl, rfl⟩
  · rintro ⟨hmode, hne, hlimit, hduration⟩
    refine ⟨b.mode, hmode, ?_⟩
    rw [if_neg hne, ← hlimit, ← hduration]

theorem readBlock_isSome_iff : (readBlock f).isSome = true ↔ ¬((Group.low (f.group 0)).toNat = 0
    ∨ ((Group.c1 (f.group 1)).toNat ≠ 1 ∧ (Group.c1 (f.group 1)).toNat ≠ 2 ∧ (Group.c1 (f.group 1)).toNat ≠ 3)) := by
  have hcode (n : Nat) (hn : n < 256) (c : Byte) : c.toNat = n ↔ c = BitVec.ofNat 8 n := by
    rw [← BitVec.toNat_inj, BitVec.toNat_ofNat, Nat.mod_eq_of_lt hn]
  rw [Option.isSome_iff_exists]
  simp only [ne_eq, hcode 1 (by decide), hcode 2 (by decide), hcode 3 (by decide), readBlock_eq_some_iff, readBlockMode_eq_some_iff, not_or, not_and_or, not_not]
  constructor
  · rintro ⟨b, hmode, hne, -⟩
    exact ⟨hne, hmode.imp And.left (.imp And.left And.left)⟩
  · rintro ⟨hne, h | h | h⟩
    · exact ⟨⟨_, _, .single⟩, .inl ⟨h, rfl⟩, hne, rfl, rfl⟩
    · exact ⟨⟨_, _, .repeating⟩, .inr (.inl ⟨h, rfl⟩), hne, rfl, rfl⟩
    · exact ⟨⟨_, _, .chain⟩, .inr (.inr ⟨h, rfl⟩), hne, rfl, rfl⟩

theorem findEntry_isSome_iff {number : Nat} {entries : List PeerEntry} :
    (findEntry number entries).isSome = true ↔ ¬ ∀ e ∈ entries, e.number ≠ number := by
  rw [← findEntry_eq_none_iff, Option.isSome_iff_ne_none]

/-- The last admission check: a value out of range, an entry that the table does not hold, or admission (R163, R164). -/
theorem valueCheck_cases (kind : Kind) (f : Frame) (s : State) :
    let badValue :=
      (kind = .limitBlock ∧ ((Group.low (f.group 0)).toNat = 0
          ∨ ((Group.c1 (f.group 1)).toNat ≠ 1 ∧ (Group.c1 (f.group 1)).toNat ≠ 2
            ∧ (Group.c1 (f.group 1)).toNat ≠ 3)))
        ∨ (kind = .hold ∧ (Group.high (f.group 0)).toNat = 0)
        ∨ (kind = .forget ∧ (Group.c1 (f.group 0)).toNat = s.config.number)
    let noEntry := kind ∈ [.forget, .readView] ∧ (Group.c1 (f.group 0)).toNat ≠ s.config.number
      ∧ ∀ e ∈ s.peers.entries, e.number ≠ (Group.c1 (f.group 0)).toNat
    (badValue → valueCheck kind f s = .badValue) ∧ (noEntry → valueCheck kind f s = .noEntry)
      ∧ (¬ badValue → ¬ noEntry → valueCheck kind f s = .accepted) := by
  have hfind := findEntry_isSome_iff (number := (Group.c1 (f.group 0)).toNat) (entries := s.peers.entries)
  cases kind with
  | limitBlock =>
    by_cases hb : (readBlock f).isSome = true
    · have hok := readBlock_isSome_iff.1 hb
      simp [valueCheck, hb, hok]
    · have hbad := not_not.1 (mt readBlock_isSome_iff.2 hb)
      simp [valueCheck, hb, hbad]
  | hold =>
    have hzero : holdDuration f = 0 ↔ (Group.high (f.group 0)).toNat = 0 := by
      unfold holdDuration
      omega
    by_cases h0 : (Group.high (f.group 0)).toNat = 0
    · simp [valueCheck, hzero, h0]
    · simp [valueCheck, hzero, h0]
  | forget =>
    by_cases hown : (Group.c1 (f.group 0)).toNat = s.config.number
    · simp [valueCheck, namedNumber, hown]
    · simp [valueCheck, namedNumber, hown, hfind]
  | readView =>
    by_cases hown : (Group.c1 (f.group 0)).toNat = s.config.number
    · simp [valueCheck, namedNumber, hown]
    · simp [valueCheck, namedNumber, hown, hfind]
  | limitCancel | shed | clearConditions | release | restart | readCounters | stationReport | alarm | reply =>
    simp [valueCheck]

/-- The body group count that the first check asks of a kind of command (R163). -/
theorem bodyGroupCount_of_commandEvent {order : OfferOrder} {c : Instr} : ∀ kind : Kind, commandEvent order kind = some c →
    (match kind with
      | .limitBlock => 2
      | .limitCancel | .release | .restart | .readCounters => 0
      | _ => 1) = bodyGroupCount kind := by
  intro kind h
  cases kind with
  | stationReport | alarm | reply => exact nomatch h
  | limitBlock | limitCancel | shed | clearConditions | hold | release | forget | restart | readView | readCounters => rfl

/-- Settles O35: each check as its condition says, and the reason of the first that fails. -/
theorem admissionChecksInOrder : Obligations.AdmissionChecksInOrder := by
  intro kind order c f s hc groups tool malformed barred locked set notPermitted wrongRole badValue noEntry
  have hgroups : groups = bodyGroupCount kind := bodyGroupCount_of_commandEvent kind hc
  have hmalformed : malformedCommand kind f = true ↔ malformed := by
    rw [malformedCommand_iff, ← hgroups]
  have hbarred : barredCommand s.config kind = true ↔ barred := barredCommand_iff s.config
  have hlocked : (s.measure.functionActive .maintLock && s.config.lockEnable && lockedKind kind) = true ↔ locked := by
    rw [Bool.and_eq_true, Bool.and_eq_true, lockedKind_iff, and_assoc]
  have hpermitted : (!permittedCommand s.config kind f) = true ↔ notPermitted := by
    rw [Bool.not_eq_true', ← Bool.not_eq_true, permittedCommand_iff, not_or, not_or, and_assoc]
  have hwrong : (transferKind kind && s.isPlant) = true ↔ wrongRole := by
    rw [Bool.and_eq_true, transferKind_iff]
  obtain ⟨hbad, hnone, hok⟩ := valueCheck_cases kind f s
  refine ⟨fun h1 => ?_, fun h1 h2 => ?_, fun h1 h2 h3 => ?_, fun h1 h2 h3 h4 => ?_, fun h1 h2 h3 h4 h5 => ?_,
    fun h1 h2 h3 h4 h5 h6 => ?_, fun h1 h2 h3 h4 h5 h6 => ?_, fun h1 h2 h3 h4 h5 h6 h7 => ?_⟩ <;>
    unfold admission
  · rw [if_pos (hmalformed.2 h1)]
  · rw [if_neg (mt hmalformed.1 h1), if_pos (hbarred.2 h2)]
  · rw [if_neg (mt hmalformed.1 h1), if_neg (mt hbarred.1 h2), if_pos (hlocked.2 h3)]
  · rw [if_neg (mt hmalformed.1 h1), if_neg (mt hbarred.1 h2), if_neg (mt hlocked.1 h3), if_pos (hpermitted.2 h4)]
  · rw [if_neg (mt hmalformed.1 h1), if_neg (mt hbarred.1 h2), if_neg (mt hlocked.1 h3), if_neg (mt hpermitted.1 h4),
      if_pos (hwrong.2 h5)]
  · rw [if_neg (mt hmalformed.1 h1), if_neg (mt hbarred.1 h2), if_neg (mt hlocked.1 h3), if_neg (mt hpermitted.1 h4),
      if_neg (mt hwrong.1 h5)]
    exact hbad h6
  · rw [if_neg (mt hmalformed.1 h1), if_neg (mt hbarred.1 h2), if_neg (mt hlocked.1 h3), if_neg (mt hpermitted.1 h4),
      if_neg (mt hwrong.1 h5)]
    exact hnone h6
  · rw [if_neg (mt hmalformed.1 h1), if_neg (mt hbarred.1 h2), if_neg (mt hlocked.1 h3), if_neg (mt hpermitted.1 h4),
      if_neg (mt hwrong.1 h5)]
    exact hok h6 h7

end Admission

/-! ### Admitted commands (R164, R165) -/

/-- An admitted command whose effect leaves the Transmit Queue as it stands is counted and answered (R164, R165). -/
theorem answered_of_admitted {kind : Kind} {c : Instr} {effect : Frame → State → State} (hs : StationOk s)
    (hevent : eventOf c = takeCommand kind (admitCommand kind effect)) (hk : kind ≠ .restart) (hadm : Admitted kind f rest s)
    (hsame : (effect f (s.withoutFront rest)).replyValues = s.replyValues) :
    exec c s = .next (settle (admitCommand kind effect f (s.withoutFront rest)))
      ∧ Answered f ⟨f.source, f.sequence, acceptedBody kind f (countAccepted (effect f (s.withoutFront rest))), false⟩
          (countAccepted (effect f (s.withoutFront rest))) (settle (admitCommand kind effect f (s.withoutFront rest))) := by
  simp only [State.replyValues, Prod.mk.injEq] at hsame
  obtain ⟨hin, hwait, hdue⟩ := hsame
  obtain ⟨hrest, hidle⟩ := hs.settled
  refine ⟨by rw [hs.exec_event, hevent, takeCommand_of_admitted hadm], ?_⟩
  unfold admitCommand
  rw [decide_eq_false hk]
  refine answered_replyTo (u := countAccepted (effect f (s.withoutFront rest))) ⟨hdue.trans hrest, fun h => ?_⟩ ?_ f _
  · exact hwait.trans (hidle (hin.symm.trans h))
  · show (effect f (s.withoutFront rest)).line.waiting.countP TxEntry.isReport ≤ 1
    rw [hwait]
    exact hs.waiting_reports

theorem arrive_eq (u : LimitUnit) (b : Block) :
    u.arrive b = if u.active.isRunning = true then { u with pendingBlock := some b }
      else { u with
        active := .running b b.duration
        blockTimer := .running 10 } := by
  unfold LimitUnit.arrive
  cases u.active <;> rfl

/-- Settles O37. -/
theorem limitBlockAndCancelAtUnit : Obligations.LimitBlockAndCancelAtUnit := by
  refine ⟨fun f rest s hs hadm => ?_, fun f rest s hs hadm => ?_⟩
  · obtain ⟨-, -, hok⟩ := id hadm
    obtain ⟨b, hb⟩ : ∃ b, readBlock f = some b := by
      refine Option.isSome_iff_exists.1 ?_
      by_contra hno
      exact absurd ((if_neg hno).symm.trans (valueCheck_of_admission hok)) (by decide)
    obtain ⟨hmode, -, hlimit, hduration⟩ := readBlock_eq_some_iff.1 hb
    have heffect (u : State) : limitBlockEffect f u = u.setLimit (u.limit.arrive b) := by
      simp [limitBlockEffect, hb]
    obtain ⟨he, hans⟩ := answered_of_admitted (c := .limitBlock) (effect := limitBlockEffect) hs rfl (by decide) hadm
      (by rw [heffect]; rfl)
    rw [heffect, arrive_eq] at hans
    refine ⟨b, _, he, hlimit, hduration, ?_, ?_, ?_, hans⟩ <;>
      rcases readBlockMode_eq_some_iff.1 hmode with ⟨hc, hm⟩ | ⟨hc, hm⟩ | ⟨hc, hm⟩ <;> simp [hc, hm]
  · obtain ⟨he, hans⟩ := answered_of_admitted (c := .limitCancel) (effect := limitCancelEffect) hs rfl (by decide) hadm rfl
    exact ⟨_, he, hans⟩

/-- READY after an admitted command that leaves the station in RUNNING or HOLD, unless its lost reply brings a reset (R142,
R167). -/
theorem readyLine_of_carried {v : State} (hu : Carried v u) (hv : v.speaking = true)
    (hm : (settle u).control.mode ≠ .starting) : (settle u).readyLine = true := by
  rcases settle_cases u with hkept | ⟨-, hreset⟩
  · rw [State.readyLine, hkept.control, hu.control]
    exact hv
  · exact absurd (by rw [hreset]; rfl) hm

/-- Settles O40. -/
theorem holdAndRelease : Obligations.HoldAndRelease := by
  refine ⟨fun f rest s hs hadm => ?_, fun f rest s hs hadm => ?_⟩
  · obtain ⟨he, hans⟩ := answered_of_admitted (c := .hold) (effect := fun f => enterHold (holdDuration f)) hs rfl (by decide)
      hadm rfl
    exact ⟨_, he, readyLine_of_carried (admitHold_carried (s.withoutFront rest) f) rfl, hans⟩
  · obtain ⟨-, ⟨hspeak, -⟩, -⟩ := id hadm
    obtain ⟨-, hhold, -⟩ := hs.eventOk.mode
    have hrelease : releaseHold (s.withoutFront rest) = (s.withoutFront rest).endHold := by
      by_cases hm : s.control.mode = .hold
      · exact releaseHold_of_hold (s := s.withoutFront rest) hm
      · have hrun : s.control.mode = .running := (speaking_iff.1 hspeak).resolve_right hm
        have hstop : s.control.holdTimer = .stopped := by
          rw [decide_eq_false hm] at hhold
          cases ht : s.control.holdTimer with
          | stopped => rfl
          | running n => exact nomatch (congrArg Timer.isRunning ht).symm.trans hhold
        rw [releaseHold_of_not_hold (s := s.withoutFront rest) hm]
        have hcontrol : s.control = { s.control with mode := .running, holdTimer := .stopped } := by
          rw [← hrun, ← hstop]
        have hsame : (s.withoutFront rest).endHold = (s.withoutFront rest).setControl s.control :=
          congrArg (s.withoutFront rest).setControl hcontrol.symm
        exact hsame.symm
    obtain ⟨he, hans⟩ := answered_of_admitted (c := .release) (effect := fun _ => releaseHold) hs rfl (by decide) hadm
      (releaseHold_replyValues _)
    have hcarried := admitRelease_carried (s.withoutFront rest) f
    rw [hrelease] at hans hcarried
    exact ⟨_, he, readyLine_of_carried hcarried rfl, hans⟩

theorem counted_eq (e : PeerEntry) : e.counted = decide (e.membership = .inSector ∧ e.freshness ≠ .lost) := by
  rw [PeerEntry.counted, Bool.decide_and]

/-- An admitted FORGET, or READ_VIEW of another number, names an entry of the table (R163). -/
theorem exists_named_of_admission {kind : Kind}
    (hk : kind = .forget ∨ (kind = .readView ∧ namedNumber f ≠ s.config.number)) (h : admission kind f s = .accepted) :
    ∃ e, findEntry (namedNumber f) s.peers.entries = some e := by
  refine Option.isSome_iff_exists.1 ?_
  have hvalue := valueCheck_of_admission h
  by_contra hno
  rcases hk with rfl | ⟨rfl, hother⟩
  · simp only [valueCheck] at hvalue
    rw [if_neg hno] at hvalue
    split at hvalue <;> exact nomatch hvalue
  · simp only [valueCheck] at hvalue
    rw [if_neg hother, if_neg hno] at hvalue
    exact nomatch hvalue

/-- Settles O41. -/
theorem forgetRemovesEntry : Obligations.ForgetRemovesEntry := by
  intro f rest s hs hadm
  obtain ⟨-, -, hok⟩ := id hadm
  obtain ⟨e, hfind⟩ := exists_named_of_admission (.inl rfl) hok
  obtain ⟨he, hnum⟩ := findEntry_eq_some hfind
  have heffect : forgetEntry (namedNumber f) (s.withoutFront rest)
      = ((s.withoutFront rest).setPeers { s.peers with
          entries := s.peers.entries.filter (fun x => x.number ≠ e.number) }).noticed
        (decide (e.membership = .inSector ∧ e.freshness ≠ .lost)) := by
    have hfilter : removeEntry (namedNumber f) s.peers.entries
        = s.peers.entries.filter (fun x => x.number ≠ e.number) := by
      rw [← hnum]
      exact List.filter_congr fun x _ => by simp [bne, BEq.beq]
    have hfind' : findEntry (namedNumber f) (s.withoutFront rest).peers.entries = some e := hfind
    rw [forgetEntry, hfind', ← counted_eq, ← hfilter]
    exact noticeIf_eq _ _
  obtain ⟨hexec, hans⟩ := answered_of_admitted (c := .forget) (effect := fun f => forgetEntry (namedNumber f)) hs rfl
    (by decide) hadm (by rw [heffect]; rfl)
  rw [heffect] at hans
  exact ⟨e, _, he, hnum, hexec, hans⟩

end Sys2Proof.Machine
end

section
/-! The commands that read (R166, R180), the ones with an order of their own, SHED and CLEAR_CONDITIONS (R79, R146), and
RESTART (R167). -/

namespace Sys2Proof.Machine

variable {s t u : State} {f : Frame} {rest : List Frame}

/-! ### Reads (R166, R180) -/

/-- The run cut into five groups (R180). -/
theorem groups_of_run (x : BitVec 160) :
    x.extractLsb' 128 32 ++ x.extractLsb' 96 32 ++ x.extractLsb' 64 32 ++ x.extractLsb' 32 32 ++ x.extractLsb' 0 32 = x := by
  have hjoin {start₂ start₁ len₂ len₁ : Nat} (h : start₂ = start₁ + len₁) :=
    BitVec.extractLsb'_append_extractLsb'_eq_extractLsb' (x := x) (len₂ := len₂) h
  have h4 := hjoin (start₂ := 128) (start₁ := 96) (len₂ := 32) (len₁ := 32) rfl
  have h3 := hjoin (start₂ := 96) (start₁ := 64) (len₂ := 64) (len₁ := 32) rfl
  have h2 := hjoin (start₂ := 64) (start₁ := 32) (len₂ := 96) (len₁ := 32) rfl
  have h1 := hjoin (start₂ := 32) (start₁ := 0) (len₂ := 128) (len₁ := 32) rfl
  simp only [Nat.reduceAdd] at h4 h3 h2 h1
  rw [h4, h3, h2, h1]
  simp

theorem acceptedBody_readView_of_own (hown : namedNumber f = s.config.number) :
    acceptedBody .readView f s = replyHead f .accepted
        (ownViewTail ((Config.ownViewSpare s.line.draws s.command.accepted).extractLsb' 2 1) s)
      :: ownView ((Config.ownViewSpare s.line.draws s.command.accepted).extractLsb' 0 2) s := if_pos hown

theorem acceptedBody_readView_of_entry {e : PeerEntry} (hother : namedNumber f ≠ s.config.number)
    (hfind : findEntry (namedNumber f) s.peers.entries = some e) :
    acceptedBody .readView f s
      = replyHead f .accepted 0#8 :: peerView (Config.plantViewFlags s.line.draws s.command.accepted) e := by
  simp [acceptedBody, hother, hfind]

theorem peerView_of_transfer (flags : BitVec 4) {e : PeerEntry} {p : TransferPart} (hp : e.part = .transfer p) :
    peerView flags e =
      [ byteGroup (u8 e.number) 1#8 e.membership.code e.freshness.code,
        pairGroup (u16 e.age) (u16 e.acceptedCount),
        byteGroup e.lastSequence e.peerMode.code (u8 p.cls) p.outcome.code,
        wordGroup (0#3 ++ bit p.shed ++ bit p.localHand ++ bit p.starved ++ bit p.wide ++ bit e.isolated) e.word,
        pairGroup (u16 p.qr) (u16 p.grant), pairGroup (u16 p.valve) (s16Opt p.margin), 0#32 ] := by
  rw [peerView, hp]
  rfl

theorem peerView_of_plant (flags : BitVec 4) {e : PeerEntry} {p : PlantPart} (hp : e.part = .plant p) :
    peerView flags e =
      [ byteGroup (u8 e.number) 2#8 e.membership.code e.freshness.code,
        pairGroup (u16 e.age) (u16 e.acceptedCount),
        byteGroup e.lastSequence e.peerMode.code 0#8 0#8,
        wordGroup (0#3 ++ flags ++ bit e.isolated) e.word,
        pairGroup (u16 p.offer) (u16 p.head), pairGroup (u16Opt p.flow) (s16Opt p.criticalMargin),
        pairGroup (u16Opt p.critical) 0#16 ] := by
  rw [peerView, hp]
  rfl

/-- The own view of a plant station (R166, R180). -/
theorem acceptedBody_readView_of_plant (hown : namedNumber f = s.config.number) (hp : s.isPlant = true) :
    acceptedBody .readView f s = replyHead f .accepted 0#8 :: (reportBody s ++ inputStatus s.measure 0#8 :: headRecord s) := by
  have hr := config_role_of_isPlant hp
  rw [acceptedBody_readView_of_own hown, ownViewTail, ownView, reportBody, hr, List.append_assoc]
  rfl

/-- The own view of a transfer station (R166, R180). -/
theorem acceptedBody_readView_of_transfer (hown : namedNumber f = s.config.number) (ht : s.isTransfer = true) :
    ∃ (spare1 : BitVec 1) (spare2 : BitVec 2), acceptedBody .readView f s =
      replyHead f .accepted (bit s.share.record.floorApplied ++ spare1 ++ BitVec.ofNat 6 s.share.record.freshPlants)
        :: (reportBody s ++ inputStatus s.measure (spare2 ++ BitVec.ofNat 6 s.share.record.transferPeers)
          :: allocationGroups s.share.record) := by
  have hr := config_role_of_isTransfer ht
  refine ⟨(Config.ownViewSpare s.line.draws s.command.accepted).extractLsb' 2 1,
    (Config.ownViewSpare s.line.draws s.command.accepted).extractLsb' 0 2, ?_⟩
  rw [acceptedBody_readView_of_own hown, ownViewTail, ownView, reportBody, hr, List.append_assoc]
  rfl

/-- Settles O42. -/
theorem readsAnswered : Obligations.ReadsAnswered := by
  refine ⟨⟨rfl, rfl, rfl, rfl, rfl, rfl, rfl, rfl, rfl⟩, fun f rest s hs => ?_⟩
  intro reply counted named inputs a
  have hview (hadm : Admitted .readView f rest s) : ∃ t, exec .readView s = .next t
      ∧ Answered f ⟨f.source, f.sequence, acceptedBody .readView f counted, false⟩ counted t :=
    ⟨_, answered_of_admitted (c := .readView) (effect := noEffect) hs rfl (by decide) hadm rfl⟩
  refine ⟨fun hadm => ?_, fun hadm hother => ?_, fun hadm hown hp => ?_, fun hadm hown ht => ?_⟩
  · obtain ⟨he, hans⟩ := answered_of_admitted (c := .readCounters) (effect := noEffect) hs rfl (by decide) hadm rfl
    exact ⟨_, he, hans⟩
  · obtain ⟨t, he, hans⟩ := hview hadm
    obtain ⟨-, -, hok⟩ := id hadm
    obtain ⟨e, hfind⟩ := exists_named_of_admission (.inr ⟨rfl, hother⟩) hok
    obtain ⟨hmem, hnum⟩ := findEntry_eq_some hfind
    rw [acceptedBody_readView_of_entry (s := counted) hother hfind] at hans
    refine ⟨e, t, Config.plantViewFlags counted.line.draws counted.command.accepted, hmem, hnum, he, fun p hp => ?_, fun p hp => ?_⟩
    · rw [peerView_of_transfer _ hp] at hans
      exact hans
    · rw [peerView_of_plant _ hp] at hans
      exact hans
  · obtain ⟨t, he, hans⟩ := hview hadm
    rw [acceptedBody_readView_of_plant (s := counted) hown hp] at hans
    exact ⟨t, he, hans⟩
  · obtain ⟨t, he, hans⟩ := hview hadm
    obtain ⟨spare1, spare2, hbody⟩ := acceptedBody_readView_of_transfer (s := counted) hown ht
    rw [hbody] at hans
    exact ⟨_, _, _, _, _, t, spare1, spare2, he, groups_of_run (allocationRun a), hans⟩

/-! ### What the Transmit Queue's operations do not read -/

/-- The station with this Limit Unit and this COMMANDS_ACCEPTED, neither of which the offers and the latches read. -/
def State.restamped (b : LimitUnit) (n : Nat) (s : State) : State :=
  (s.setLimit b).setCommand { s.command with accepted := n }

section Restamped

variable (b : LimitUnit) (n : Nat)

theorem offerAlarm_restamped (s : State) : offerAlarm (s.restamped b n) = (offerAlarm s).restamped b n := by
  unfold offerAlarm
  by_cases hroom : s.line.txCount < Config.txCapacity
  · rw [if_pos hroom]
    exact if_pos hroom
  · rw [if_neg hroom]
    refine (if_neg hroom).trans ?_
    show (match takeFirst TxEntry.isReport s.line.waiting with
      | some (_, others) => _
      | none => _) = _
    cases takeFirst TxEntry.isReport s.line.waiting with
    | some q => rfl
    | none =>
      show (match takeLast TxEntry.isReply s.line.waiting with
        | some (e, others) => _
        | none => _) = _
      cases takeLast TxEntry.isReply s.line.waiting <;> rfl

theorem setLatch_restamped (l : Latch) (s : State) : setLatch l (s.restamped b n) = (setLatch l s).restamped b n := by
  cases hl : s.latched l with
  | true =>
    rw [setLatch_of_latched hl]
    exact setLatch_of_latched hl
  | false =>
    cases hu : s.urgent l with
    | false =>
      rw [setLatch_of_not_urgent hl hu]
      exact setLatch_of_not_urgent hl hu
    | true =>
      rcases speaking_or_joining_or_inactive s with hs | hj | ha
      · rw [setLatch_of_urgent hl hu hs, setLatch_of_urgent (s := s.restamped b n) hl hu hs]
        show (if s.line.absorbsAlarm = true then _ else if s.line.holdsAlarm = true then _ else _) = _
        by_cases habs : s.line.absorbsAlarm = true
        · rw [if_pos habs, if_pos habs]
          rfl
        · by_cases hholds : s.line.holdsAlarm = true
          · rw [if_neg habs, if_neg habs, if_pos hholds, if_pos hholds]
            rfl
          · rw [if_neg habs, if_neg habs, if_neg hholds, if_neg hholds]
            exact offerAlarm_restamped b n (markLatch l s)
      · rw [setLatch_of_joining hl hu hj]
        exact setLatch_of_joining hl hu hj
      · rw [setLatch_of_inactive hl ha]
        exact setLatch_of_inactive hl ha

theorem offerReply_restamped (r : Reply) (s : State) : offerReply r (s.restamped b n) = (offerReply r s).restamped b n := by
  unfold offerReply
  by_cases hroom : s.line.txCount < Config.txCapacity
  · rw [if_pos hroom]
    exact if_pos hroom
  · rw [if_neg hroom]
    refine (if_neg hroom).trans ?_
    show (match takeFirst TxEntry.isReport s.line.waiting with
      | some (_, others) => _
      | none => _) = _
    cases takeFirst TxEntry.isReport s.line.waiting with
    | some q => rfl
    | none =>
      show noteDeparture (.reply r) (setLatch .replyLost ((countReplyLost s).restamped b n)) = _
      rw [setLatch_restamped]
      rfl

theorem replyTo_restamped (f : Frame) (body : List Group) (s : State) :
    replyTo f false body (s.restamped b n) = (replyTo f false body s).restamped b n := by
  unfold replyTo
  split
  · rfl
  · exact offerReply_restamped b n _ s

theorem arbitrate_restamped (s : State) : arbitrate (s.restamped b n) = (arbitrate s).restamped b n := by
  unfold arbitrate
  show (match s.line.inFlight with
    | some _ => _
    | none => _) = _
  cases s.line.inFlight with
  | some e => rfl
  | none =>
    show (match nextEntry s.line.waiting with
      | some (e, others) => _
      | none => _) = _
    cases nextEntry s.line.waiting <;> rfl

end Restamped

/-! ### A latch and a reply at a settled station, and the reset either can bring (R157, R167) -/

/-- An event that leaves a RESTART's reset to come ends in that reset (R167). -/
theorem restarted_of_event {c : Instr} (hc : s.levelled c = s)
    (hdue : (eventOf c s).command.restartDue = true) : Restarted s (settle (eventOf c s)) := by
  have hout := event_outlived c s
  rw [hc] at hout
  have hpending := (event_moved c s).pending
  rw [settle_of_restartDue hdue]
  exact restarted_of_outlived hout hpending

theorem not_starting_of_speaking (h : s.speaking = true) : s.control.mode ≠ .starting := fun hm => by
  simp [State.speaking, Mode.speaking, hm] at h

section Settled

variable (hs : Settled s) (hmode : s.control.mode ≠ .starting) (hc : s.line.waiting.countP TxEntry.isReport ≤ 1)
include hs hmode hc

/-- The setting of a latch brings the reset of a RESTART exactly where it displaces its reply (R148, R157, R167). -/
theorem setLatch_settled (l : Latch) :
    (DisplacesRestart l s ∧ (setLatch l s).command.restartDue = true)
      ∨ (¬ DisplacesRestart l s ∧ (setLatch l s).command.restartDue = false ∧ AfterLatch l s (arbitrate (setLatch l s))) := by
  obtain ⟨hreset, hkept⟩ := latchSet (l := l) hs hc
  by_cases hd : DisplacesRestart l s
  · refine .inl ⟨hd, ?_⟩
    obtain ⟨hcontrol, -⟩ := hreset hd
    by_contra hno
    rw [settle_of_not_restartDue (by simpa using hno)] at hcontrol
    have hreset := congrArg (·.mode) hcontrol
    exact hmode (by simpa [StationControl.atReset] using hreset)
  · refine .inr ⟨hd, ?_⟩
    have hafter := hkept hd
    cases hdue : (setLatch l s).command.restartDue with
    | true =>
      obtain ⟨-, -, -, -, -, ⟨-, hcontrol, -⟩, -⟩ := hafter
      have hcontrol := hcontrol (by decide)
      rw [settle_of_restartDue hdue] at hcontrol
      exact absurd (congrArg (·.mode) hcontrol.symm) hmode
    | false =>
      rw [settle_of_not_restartDue hdue] at hafter
      exact ⟨rfl, hafter⟩

/-- The offer of a reply brings the reset of a RESTART exactly where it is dropped and REPLY_LOST displaces that RESTART's own
reply (R157, R165, R167). -/
theorem replyTo_settled (f : Frame) (body : List Group) :
    (DropsReply f s ∧ DisplacesRestart .replyLost s.oneReplyLost ∧ (replyTo f false body s).command.restartDue = true)
      ∨ (¬(DropsReply f s ∧ DisplacesRestart .replyLost s.oneReplyLost) ∧ (replyTo f false body s).command.restartDue = false
        ∧ Answered f ⟨f.source, f.sequence, body, false⟩ s (arbitrate (replyTo f false body s))) := by
  have hans := answered_replyTo hs hc f body
  by_cases hdrop : DropsReply f s
  · have hreply : replyTo f false body s = setLatch .replyLost s.oneReplyLost := by
      obtain ⟨hd, hfull, hno⟩ := hdrop
      have hroom : ¬ s.line.txCount < Config.txCapacity := Nat.not_lt.2 hfull
      rw [replyTo, if_neg hd, offerReply, if_neg hroom, takeFirst_eq_none.2 hno]
      exact noteDeparture_of_unmarked rfl
    rcases setLatch_settled (s := s.oneReplyLost) hs hmode hc .replyLost with ⟨hd, hdue⟩ | ⟨hd, hdue, -⟩
    · exact .inl ⟨hdrop, hd, by rw [hreply, hdue]⟩
    · rw [← hreply] at hdue
      rw [settle_of_not_restartDue hdue] at hans
      exact .inr ⟨fun h => hd h.2, hdue, hans⟩
  · have hdue : (replyTo f false body s).command.restartDue = false := by
      refine Eq.trans ?_ hs.1
      unfold replyTo offerReply
      split
      · rfl
      next hd =>
        split
        · rfl
        next hfull =>
          split
          · rfl
          next hnone => exact absurd ⟨hd, Nat.le_of_not_lt hfull, takeFirst_eq_none.1 hnone⟩ hdrop
    rw [settle_of_not_restartDue hdue] at hans
    exact .inr ⟨fun h => hdrop h.1, hdue, hans⟩

end Settled

/-- After the arbiter has chosen, a station without a RESTART's reset to come is settled. -/
theorem settled_arbitrate (h : u.command.restartDue = false) : Settled (arbitrate u) :=
  ⟨by simpa using h, waiting_eq_nil_of_arbitrate⟩

theorem arbitrate_restartDue (u : State) : (arbitrate u).command.restartDue = u.command.restartDue := by simp

theorem EventOk.waiting_reports (h : EventOk s) : s.line.waiting.countP TxEntry.isReport ≤ 1 := by
  obtain ⟨-, hreports, -⟩ := h.queues.tx
  exact (List.Sublist.countP_le (List.sublist_append_right _ _)).trans hreports

/-- A reset to come is not taken back by the setting of a latch or the offer of a reply. -/
theorem setLatch_restartDue_of_due (l : Latch) (h : s.command.restartDue = true) :
    (setLatch l s).command.restartDue = true := by
  have hoffer (v : State) (hv : v.command.restartDue = true) : (offerAlarm v).command.restartDue = true := by
    unfold offerAlarm
    split
    · exact hv
    · split
      · exact hv
      · split
        · exact Bool.or_eq_true_iff.2 (.inl hv)
        · exact hv
  rcases setLatch_cases l s with he | he | he | ⟨-, he⟩ <;> rw [he]
  · exact h
  · exact h
  · exact h
  · exact hoffer _ h

theorem replyTo_restartDue_of_due (f : Frame) (body : List Group) (h : s.command.restartDue = true) :
    (replyTo f false body s).command.restartDue = true := by
  unfold replyTo offerReply
  split
  · exact h
  · split
    · exact h
    · split
      · exact h
      · exact Bool.or_eq_true_iff.2 (.inl (setLatch_restartDue_of_due _ h))

/-! ### SHED (R79) -/

theorem takeShed_of_ending {threshold duration : Nat} (h : duration = 0 ∨ s.config.ownClass < threshold) :
    takeShed threshold duration s = s.setLimit s.limit.endShed := by
  unfold takeShed
  by_cases h0 : duration = 0
  · rw [if_pos h0]
  · rw [if_neg h0, if_neg (Nat.not_le.2 (h.resolve_left h0))]

theorem takeShed_of_applying {threshold duration : Nat} (h0 : duration ≠ 0) (hle : threshold ≤ s.config.ownClass) :
    takeShed threshold duration s = setLatch .shedReceived (s.setLimit (s.limit.startShed threshold duration)) := by
  unfold takeShed
  rw [if_neg h0, if_pos hle]

theorem settle_arbitrate_restamped (h : u.command.restartDue = true → ∃ e, u.line.inFlight = some e) (b : LimitUnit) (n : Nat) :
    settle ((arbitrate u).restamped b n) = settle (u.restamped b n) := by
  cases hdue : u.command.restartDue with
  | true =>
    obtain ⟨e, he⟩ := h hdue
    rw [arbitrate_of_inFlight he]
  | false =>
    have hsettled := settled_arbitrate hdue
    rw [settle_of_not_restartDue (u := u.restamped b n) hdue, arbitrate_restamped]
    exact settle_of_settled (s := (arbitrate u).restamped b n) hsettled

/-- What a SHED reads after its own reply stands as before it. -/
theorem arbitrate_replyTo_reads (f : Frame) (body : List Group) (s : State) :
    (arbitrate (replyTo f false body s)).limit = s.limit ∧ (arbitrate (replyTo f false body s)).config = s.config
      ∧ (arbitrate (replyTo f false body s)).command.accepted = s.command.accepted := by
  unfold replyTo
  split <;> simp

/-- A SHED in force, its ALARM offered first (R79, log 7). -/
theorem admitShed_of_applying_alarmFirst (h0 : shedDuration f ≠ 0) (hle : shedThreshold f ≤ s.config.ownClass) :
    admitShed .alarmFirst f s = replyTo f false [replyHead f .accepted 0#8] (arbitrate (setLatch .shedReceived
      (s.acceptedOne.setLimit (s.limit.startShed (shedThreshold f) (shedDuration f))))) := by
  have hcount : countAccepted (takeShed (shedThreshold f) (shedDuration f) s)
      = setLatch .shedReceived (s.acceptedOne.setLimit (s.limit.startShed (shedThreshold f) (shedDuration f))) := by
    rw [takeShed_of_applying h0 hle]
    let b := s.limit.startShed (shedThreshold f) (shedDuration f)
    calc countAccepted (setLatch .shedReceived (s.restamped b s.command.accepted))
      _ = countAccepted ((setLatch .shedReceived s).restamped b s.command.accepted) := by rw [setLatch_restamped]
      _ = (setLatch .shedReceived s).restamped b s.acceptedOne.command.accepted := rfl
      _ = setLatch .shedReceived (s.restamped b s.acceptedOne.command.accepted) := (setLatch_restamped _ _ _ s).symm
  unfold admitShed
  dsimp only
  rw [hcount]
  rfl

/-- A SHED in force, its reply offered first (R79, log 7). -/
theorem admitShed_of_applying_otherFirst (h0 : shedDuration f ≠ 0) (hle : shedThreshold f ≤ s.config.ownClass) :
    admitShed .otherFirst f s = setLatch .shedReceived ((arbitrate (replyTo f false [replyHead f .accepted 0#8] s.acceptedOne)).setLimit
      (s.limit.startShed (shedThreshold f) (shedDuration f))) := by
  obtain ⟨hlimit, hconfig, -⟩ := arbitrate_replyTo_reads f [replyHead f .accepted 0#8] s.acceptedOne
  have hshed : admitShed .otherFirst f s = takeShed (shedThreshold f) (shedDuration f)
      (arbitrate (replyTo f false [replyHead f .accepted 0#8] s.acceptedOne)) := rfl
  rw [hshed, takeShed_of_applying h0 (by rw [hconfig]; exact hle), hlimit]
  rfl

section Shed

variable (hok : EventOk s) (hs : Settled s) (hspeak : s.speaking = true)
include hok hs hspeak

/-- A reply that brings a reset finds an entry in flight (R157, R165). -/
theorem inFlight_of_replyTo_restartDue {f : Frame} {body : List Group} (h : (replyTo f false body s).command.restartDue = true) :
    ∃ e, (replyTo f false body s).line.inFlight = some e := by
  rcases replyTo_settled hs (not_starting_of_speaking hspeak) hok.waiting_reports f body with ⟨⟨-, hfull, -⟩, -⟩ | ⟨-, hdue, -⟩
  · rw [replyTo_inFlight]
    exact inFlight_of_full hs.2 hfull
  · exact absurd (h.symm.trans hdue) (by decide)

/-- A SHED that ends any shed, counted and answered in either order (R79, R164). -/
theorem admitShed_of_ending (order : OfferOrder) (f : Frame) (h : shedDuration f = 0 ∨ s.config.ownClass < shedThreshold f) :
    Answered f (shortReply f .accepted) (s.acceptedOne.setLimit s.limit.endShed) (settle (admitShed order f s)) := by
  have hans := answered_replyTo (u := s.acceptedOne.setLimit s.limit.endShed) hs hok.waiting_reports f
    [replyHead f .accepted 0#8]
  cases order with
  | alarmFirst =>
    have hidle : arbitrate (countAccepted (s.setLimit s.limit.endShed)) = countAccepted (s.setLimit s.limit.endShed) :=
      arbitrate_of_settled (s := countAccepted (s.setLimit s.limit.endShed)) hs.2
    have he : admitShed .alarmFirst f s = replyTo f false [replyHead f .accepted 0#8] (s.acceptedOne.setLimit s.limit.endShed) := by
      unfold admitShed
      rw [takeShed_of_ending h]
      dsimp only
      rw [hidle]
      rfl
    rw [he]
    exact hans
  | otherFirst =>
    let r := replyTo f false [replyHead f .accepted 0#8] s.acceptedOne
    obtain ⟨hlimit, hconfig, haccepted⟩ := arbitrate_replyTo_reads f [replyHead f .accepted 0#8] s.acceptedOne
    have he : admitShed .otherFirst f s = (arbitrate r).restamped s.limit.endShed s.acceptedOne.command.accepted := by
      have hshed : admitShed .otherFirst f s = takeShed (shedThreshold f) (shedDuration f) (arbitrate r) := rfl
      rw [hshed, takeShed_of_ending (by rw [hconfig]; exact h), hlimit, ← haccepted]
      rfl
    have hr : r.restamped s.limit.endShed s.acceptedOne.command.accepted
        = replyTo f false [replyHead f .accepted 0#8] (s.acceptedOne.setLimit s.limit.endShed) :=
      (replyTo_restamped _ _ f _ s.acceptedOne).symm
    rw [he, settle_arbitrate_restamped (inFlight_of_replyTo_restartDue (s := s.acceptedOne) hok.countAccepted hs hspeak), hr]
    exact hans

end Shed

/-- Settles O38. -/
theorem shedAtUnit : Obligations.ShedAtUnit := by
  intro order f rest s hs hadm threshold duration counted off inForce reply
  obtain ⟨-, ⟨hspeak, -⟩, hok⟩ := id hadm
  have hbase : EventOk (s.withoutFront rest) := hs.eventOk.withoutFront (active_of_atFront hs hadm.1) hadm.1.1
  have hevent : eventOf (.shed order) s = admitShed order f (s.withoutFront rest) :=
    takeCommand_of_admitted (admitted := admitShed order) hadm
  have hexec := hs.exec_event (.shed order)
  have hrestart := restarted_of_event (c := .shed order) (s := s) rfl
  rw [hevent] at hexec hrestart
  have hreports : (arbitrate (setLatch .shedReceived (inForce counted))).line.waiting.countP TxEntry.isReport ≤ 1 := by
    have hbase := (hbase.setLatch .shedReceived).arbitrate.waiting_reports
    rwa [show inForce counted = (s.withoutFront rest).restamped (s.limit.startShed threshold duration) counted.command.accepted
      from rfl, setLatch_restamped, arbitrate_restamped]
  refine ⟨fun hend => ⟨_, hexec, ?_⟩, fun h0 hle horder => ⟨_, hexec, ?_⟩, fun h0 hle horder => ⟨_, hexec, ?_⟩⟩
  · exact admitShed_of_ending hbase hs.settled hspeak order f hend
  · subst horder
    have hadmit := admitShed_of_applying_alarmFirst (s := s.withoutFront rest) h0 hle
    rw [hadmit] at hrestart ⊢
    rcases setLatch_settled (s := inForce counted) hs.settled (not_starting_of_speaking hspeak) hs.waiting_reports .shedReceived with ⟨hd, hdue⟩ | ⟨hd, hdue, hafter⟩
    · refine ⟨fun _ => hrestart (replyTo_restartDue_of_due f _ ?_), fun hno => absurd hd hno⟩
      exact (arbitrate_restartDue _).trans hdue
    · refine ⟨fun hyes => absurd hyes hd, fun _ => ⟨_, hafter, ?_⟩⟩
      exact answered_replyTo (settled_arbitrate hdue) hreports f _
  · subst horder
    have hadmit := admitShed_of_applying_otherFirst (s := s.withoutFront rest) h0 hle
    rw [hadmit] at hrestart ⊢
    rcases replyTo_settled (s := counted) hs.settled (not_starting_of_speaking hspeak) hs.waiting_reports f [replyHead f .accepted 0#8] with
      ⟨hdrop, hd, hdue⟩ | ⟨hno, hdue, hans⟩
    · refine ⟨fun _ _ => hrestart (setLatch_restartDue_of_due _ ?_), fun hno => absurd ⟨hdrop, hd⟩ hno⟩
      exact (arbitrate_restartDue _).trans hdue
    · refine ⟨fun hdrop hd => absurd ⟨hdrop, hd⟩ hno, fun _ => ⟨_, hans, ?_⟩⟩
      exact latchSet (settled_arbitrate hdue) (hbase.countAccepted.replyTo hspeak f false _).arbitrate.waiting_reports

/-! ### CLEAR_CONDITIONS (R146) -/

/-- The latches that a clear leaves (R146). -/
def ConditionUnit.cleared (mask : BitVec 24) (u : ConditionUnit) : ConditionUnit :=
  { u with latches := u.latches &&& ~~~ (mask.extractLsb' 0 14) }

/-- The change latches that a clear leaves (R136). -/
def MeasurementUnit.cleared (mask : BitVec 24) (u : MeasurementUnit) : MeasurementUnit :=
  if mask.getLsbD 9 = true then { u with inputs := u.inputs.mapEach (fun v => { v with changed := false }) } else u

theorem clearConditions_eq (mask : BitVec 24) (s : State) :
    clearConditions mask s = (s.setCondition (s.condition.cleared mask)).setMeasure (s.measure.cleared mask) := by
  unfold clearConditions MeasurementUnit.cleared
  by_cases h : mask.getLsbD 9 = true
  · rw [if_pos h]
    exact if_pos h
  · rw [if_neg h]
    exact if_neg h

/-- The arbiter and a clear do not see one another. -/
theorem arbitrate_clearConditions (mask : BitVec 24) (s : State) :
    arbitrate (clearConditions mask s) = clearConditions mask (arbitrate s) := by
  rw [clearConditions_eq, clearConditions_eq]
  unfold arbitrate
  show (match s.line.inFlight with
    | some _ => _
    | none => _) = _
  cases s.line.inFlight with
  | some e => rfl
  | none =>
    show (match nextEntry s.line.waiting with
      | some (e, others) => _
      | none => _) = _
    cases nextEntry s.line.waiting <;> rfl

/-- A reply that is not dropped and a clear do not see one another. -/
theorem replyTo_clearConditions (hno : ¬ DropsReply f s) (mask : BitVec 24) (body : List Group) :
    replyTo f false body (clearConditions mask s) = clearConditions mask (replyTo f false body s) := by
  rw [clearConditions_eq, clearConditions_eq]
  unfold replyTo
  by_cases hd : f.destination = 255#8
  · rw [if_pos hd, if_pos hd]
  · rw [if_neg hd, if_neg hd]
    unfold offerReply
    by_cases hroom : s.line.txCount < Config.txCapacity
    · rw [if_pos hroom]
      exact if_pos hroom
    · rw [if_neg hroom]
      refine (if_neg hroom).trans ?_
      show (match takeFirst TxEntry.isReport s.line.waiting with
        | some (_, others) => _
        | none => _) = _
      cases hq : takeFirst TxEntry.isReport s.line.waiting with
      | some q => rfl
      | none => exact absurd ⟨hd, Nat.le_of_not_lt hroom, takeFirst_eq_none.1 hq⟩ hno

theorem clearMask_getLsbD {k : Nat} (hk : k < 24) : (clearMask f).getLsbD k = (f.group 0).getLsbD k := by
  simp [clearMask, Group.tail24, hk]

/-- What a clear makes of a station, bit by bit. -/
theorem clearConditions_clearMask (f : Frame) (m : State) : ∃ latches,
    (∀ k, k < 14 → latches.getLsbD k = (m.condition.latches.getLsbD k && !(f.group 0).getLsbD k))
      ∧ clearConditions (clearMask f) m = (m.setCondition { m.condition with latches := latches }).setMeasure
        (if (f.group 0).getLsbD 9 = true then
          { m.measure with inputs := m.measure.inputs.mapEach (fun v => { v with changed := false }) }
         else m.measure) := by
  refine ⟨m.condition.latches &&& ~~~ ((clearMask f).extractLsb' 0 14), fun k hk => ?_, ?_⟩
  · have hbit := clearMask_getLsbD (f := f) (k := k) (by omega)
    simp [hk, hbit]
  · rw [clearConditions_eq, MeasurementUnit.cleared, clearMask_getLsbD (by decide)]
    rfl

/-- Settles O39: the clear comes before the reply where a free value says so; a reply that is not dropped gives the same in
either order. -/
theorem clearConditionsClearsMask : Obligations.ClearConditionsClearsMask := by
  intro f rest s hs hadm counted reply Cleared clearFirst settingFirst
  obtain ⟨-, ⟨hspeak, -⟩, -⟩ := id hadm
  have hevent : eventOf .clearConditions s = admitClear f (s.withoutFront rest) :=
    takeCommand_of_admitted (admitted := admitClear) hadm
  have hexec := hs.exec_event .clearConditions
  have hrestart := restarted_of_event (c := .clearConditions) (s := s) rfl
  rw [hevent] at hexec hrestart
  have hfirst : clearFirst (settle (replyTo f false [replyHead f .accepted 0#8] (clearConditions (clearMask f) counted))) := by
    refine ⟨_, clearConditions_clearMask f counted, ?_⟩
    have hsame := clearConditions_replyValues (clearMask f) counted
    simp only [State.replyValues, Prod.mk.injEq] at hsame
    obtain ⟨hin, hwait, hdue⟩ := hsame
    refine answered_replyTo ⟨hdue.trans hs.settled.1, fun h => hwait.trans (hs.settled.2 (hin.symm.trans h))⟩ ?_ f _
    rw [hwait]
    exact hs.waiting_reports
  refine ⟨_, hexec, ?_⟩
  by_cases hchoice : Config.clearFirst (s.withoutFront rest).line.draws (s.withoutFront rest).line.repliesLost = true
  · have hcount : countAccepted (clearConditions (clearMask f) (s.withoutFront rest)) = clearConditions (clearMask f) counted := by
      rw [clearConditions_eq, clearConditions_eq]
      rfl
    have hadmit : admitClear f (s.withoutFront rest)
        = replyTo f false [replyHead f .accepted 0#8] (clearConditions (clearMask f) counted) := by
      rw [← hcount]
      exact if_pos hchoice
    rw [hadmit]
    exact ⟨fun _ => hfirst, fun _ => .inl hfirst⟩
  · have hadmit : admitClear f (s.withoutFront rest)
        = clearConditions (clearMask f) (replyTo f false [replyHead f .accepted 0#8] counted) := if_neg hchoice
    rw [hadmit] at hrestart ⊢
    refine ⟨fun hno => ?_, fun hdrop => .inr ?_⟩
    · rwa [← replyTo_clearConditions hno]
    · have hdue' := clearConditions_replyValues (clearMask f) (replyTo f false [replyHead f .accepted 0#8] counted)
      simp only [State.replyValues, Prod.mk.injEq] at hdue'
      obtain ⟨-, -, hdue'⟩ := hdue'
      rcases replyTo_settled (s := counted) hs.settled (not_starting_of_speaking hspeak) hs.waiting_reports f [replyHead f .accepted 0#8] with
        ⟨-, hd, hdue⟩ | ⟨hno, hdue, hans⟩
      · exact ⟨fun _ => hrestart (hdue'.trans hdue), fun hno => absurd hd hno⟩
      · rw [settle_of_not_restartDue (hdue'.trans hdue), arbitrate_clearConditions]
        exact ⟨fun hd => absurd ⟨hdrop, hd⟩ hno, fun _ => ⟨_, hans, clearConditions_clearMask f _⟩⟩

/-! ### RESTART (R167) -/

/-- A departing marked reply brings the reset of its RESTART (R167). -/
theorem depart_restartDue_of_marked {e : TxEntry} (hin : s.line.inFlight = some e) (hmarked : e.marked = true)
    (htx : s.line.txCount ≤ 6) (abandoned : Bool) (choice : ChoiceOrder) (order : OfferOrder) :
    (depart abandoned choice order s).command.restartDue = true := by
  rw [depart_restartDue hin htx, hmarked, Bool.or_true]

theorem abandon_restartDue_of_marked {e : TxEntry} (hin : s.line.inFlight = some e) (hmarked : e.marked = true)
    (htx : s.line.txCount ≤ 6) (choice : ChoiceOrder) (order : OfferOrder) :
    (abandon choice order s).command.restartDue = true := by
  cases choice with
  | latchFirst => exact depart_restartDue_of_marked (by simpa using hin) hmarked (setLatch_txCount_le .txAbandon htx) _ _ _
  | choiceFirst => exact depart_restartDue_of_marked hin hmarked htx _ _ _
  | offersFirst => exact depart_restartDue_of_marked hin hmarked htx _ _ _

/-- Settles O44. -/
theorem restartTakesEffectWhenReplyLeaves : Obligations.RestartTakesEffectWhenReplyLeaves := by
  refine ⟨fun f rest s hs hadm => ?_, fun choice order r s hs hin hr => ?_, fun older r s hs hm hurgent hclear hno hfull hwait hreports hr => ?_⟩
  · obtain ⟨-, ⟨-, -, hbroadcast⟩, -⟩ := id hadm
    have hd : f.destination ≠ 255#8 := fun h => hbroadcast ⟨h, by decide⟩
    have hevent : eventOf .restart s = replyTo f true [replyHead f .accepted 0#8] (s.withoutFront rest).acceptedOne :=
      takeCommand_of_admitted (admitted := admitCommand .restart noEffect) hadm
    have hexec := hs.exec_event .restart
    have hrestart := restarted_of_event (c := .restart) (s := s) rfl
    rw [hevent] at hexec hrestart
    refine ⟨fun hroom => ⟨_, hexec, ?_⟩, fun hfull hno => ⟨_, hexec, hrestart ?_⟩⟩
    · refine answered (s := (s.withoutFront rest).acceptedOne) hs.settled hs.waiting_reports fun ⟨_, hfull, hno⟩ => ?_
      rcases hroom with h | h
      · exact absurd h (Nat.not_lt.2 hfull)
      · exact absurd (h.symm.trans hno) (by decide)
    · have hlost : replyTo f true [replyHead f .accepted 0#8] (s.withoutFront rest).acceptedOne
          = noteDeparture (.reply ⟨f.source, f.sequence, [replyHead f .accepted 0#8], true⟩)
            (setLatch .replyLost (countReplyLost (s.withoutFront rest).acceptedOne)) := by
        rw [replyTo, if_neg hd, offerReply]
        refine (if_neg (Nat.not_lt.2 hfull)).trans ?_
        rw [show takeFirst TxEntry.isReport (s.withoutFront rest).acceptedOne.line.waiting = none from takeFirst_eq_none.2 hno]
      rw [hlost]
      exact Bool.or_true _
  · have htx : s.line.txCount ≤ 6 := hs.eventOk.queues.tx.1
    refine ⟨fun hline => ⟨_, hs.exec_event (.entrySent choice order), restarted_of_event rfl ?_⟩,
      fun hline hatt => ⟨_, hs.exec_event (.jamEnd choice order), restarted_of_event rfl ?_⟩⟩
    · have hevent : eventOf (.entrySent choice order) s = depart false choice order
          (s.setLine { s.line with
            lineState := .busy
            sending := [] }) := if_pos hline
      rw [hevent]
      refine depart_restartDue_of_marked (e := .reply r) ?_ hr ?_ _ _ _
      exacts [hin, htx]
    · have hevent : eventOf (.jamEnd choice order) s = abandon choice order (s.setLine { s.line with
            lineState := .busy
            abandoned := countUp s.line.abandoned }) := by
        refine (if_pos hline).trans (if_neg ?_)
        simp [hatt, Config.maxAttempts]
      rw [hevent]
      refine abandon_restartDue_of_marked (e := .reply r) ?_ hr ?_ _ _
      exacts [hin, htx]
  · obtain ⟨t, hexec, ⟨hreset, -⟩, -⟩ := (holdTimerEndsHold s hs).1 hm
    refine ⟨t, hexec, hreset ⟨hclear, hurgent, rfl, hno, Nat.le_of_eq hfull.symm, ?_, older, r, [], hwait, rfl, hr⟩⟩
    show s.line.waiting.any TxEntry.isReport = false
    simp [hwait, hreports, TxEntry.isReport]

end Sys2Proof.Machine
end

section
/-! The timers of the Limit Unit (R74 to R76, R80), sample records, the measurement timers and the discrete inputs
(spec/07). -/

namespace Sys2Proof.Machine

variable {s t u : State}

/-! ### The Limit Unit's timers (R74, R75, R80) -/

theorem blockTimerExpiry_of_more (hrun : s.limit.blockTimer.isRunning = true) {b : Block} {n : Nat}
    (h : s.limit.active = .running b (n + 2)) :
    blockTimerExpiry s = s.setLimit { s.limit with active := .running b (n + 1) } := by
  simp [blockTimerExpiry, hrun, h]

theorem blockTimerExpiry_of_last (hrun : s.limit.blockTimer.isRunning = true) {b : Block}
    (h : s.limit.active = .running b 1) :
    blockTimerExpiry s = if s.limit.gapAt b = true then setLatch .profileGap (s.setLimit (s.limit.activeExpiry b))
      else s.setLimit (s.limit.activeExpiry b) := by
  simp [blockTimerExpiry, hrun, h]

theorem shedTimerExpiry_of_more (hrun : s.limit.shedTimer.isRunning = true) {threshold n : Nat}
    (h : s.limit.shed = .inForce threshold (n + 2)) :
    shedTimerExpiry s = s.setLimit { s.limit with shed := .inForce threshold (n + 1) } := by
  simp [shedTimerExpiry, hrun, h]

theorem shedTimerExpiry_of_last (hrun : s.limit.shedTimer.isRunning = true) {threshold : Nat}
    (h : s.limit.shed = .inForce threshold 1) : shedTimerExpiry s = s.setLimit s.limit.endShed := by
  simp [shedTimerExpiry, hrun, h]

/-- An active expiry with no successor, by the mode of the ending block (R75). -/
theorem activeExpiry_of_no_pending {v : LimitUnit} {b : Block} (hp : v.pendingBlock = none) :
    (b.mode = .repeating → v.activeExpiry b = v.activate b ∧ v.gapAt b = false)
      ∧ (b.mode = .single → v.activeExpiry b = { v with active := .none, blockTimer := .stopped } ∧ v.gapAt b = false)
      ∧ (b.mode = .chain → v.activeExpiry b = { v with active := .held b, blockTimer := .stopped } ∧ v.gapAt b = true) := by
  refine ⟨fun hm => ?_, fun hm => ?_, fun hm => ?_⟩ <;> simp [LimitUnit.activeExpiry, LimitUnit.gapAt, hp, hm]

/-- Settles O43. -/
theorem limitTimersCountDown : Obligations.LimitTimersCountDown := by
  intro s hs
  obtain ⟨-, -, hblock, hshed, -, -⟩ := hs.eventOk.limit
  have hrun {b : Block} {n : Nat} (h : s.limit.active = .running b n) : s.limit.blockTimer.isRunning = true := by
    rw [hblock, h]
    rfl
  have hforce {threshold n : Nat} (h : s.limit.shed = .inForce threshold n) : s.limit.shedTimer.isRunning = true := by
    rw [hshed, LimitUnit.shedInForce, h]
  have hblockExec {v : State} (h : blockTimerExpiry s = v) (hv : v.replyValues = s.replyValues) :
      exec .blockTimerExpiry s = .next v := hs.exec_of_replyValues (h ▸ rfl) hv
  have hshedExec {v : State} (h : shedTimerExpiry s = v) (hv : v.replyValues = s.replyValues) :
      exec .shedTimerExpiry s = .next v := hs.exec_of_replyValues (h ▸ rfl) hv
  refine ⟨fun b n h => hblockExec (blockTimerExpiry_of_more (hrun h) h) rfl, fun b p h hp => ?_, fun b h hp => ?_, fun h => ?_,
    fun threshold n h => hshedExec (shedTimerExpiry_of_more (hforce h) h) rfl,
    fun threshold h => hshedExec (shedTimerExpiry_of_last (hforce h) h) rfl, fun h => ?_⟩
  · refine hblockExec ((blockTimerExpiry_of_last (hrun h) h).trans ?_) rfl
    simp only [LimitUnit.gapAt, LimitUnit.activeExpiry, hp]
    rfl
  · obtain ⟨hrepeating, hsingle, hchain⟩ := activeExpiry_of_no_pending (b := b) hp
    have hlast := blockTimerExpiry_of_last (hrun h) h
    refine ⟨fun hm => ?_, fun hm => ?_, fun hm => ⟨_, hs.exec_event .blockTimerExpiry, ?_⟩⟩
    · obtain ⟨hexpiry, hgap⟩ := hrepeating hm
      rw [hexpiry, hgap] at hlast
      exact hblockExec hlast rfl
    · obtain ⟨hexpiry, hgap⟩ := hsingle hm
      rw [hexpiry, hgap] at hlast
      exact hblockExec hlast rfl
    · obtain ⟨hexpiry, hgap⟩ := hchain hm
      rw [hexpiry, hgap] at hlast
      rw [show eventOf .blockTimerExpiry s = _ from hlast]
      exact latchSet hs.settled hs.waiting_reports
  · refine hblockExec (if_neg ?_) rfl
    simp [hblock, h]
  · refine hshedExec (if_neg ?_) rfl
    simp [hshed, LimitUnit.shedInForce, h]

/-! ### The offer (R108, R109) -/

theorem recomputeOffer_of_not_plant (h : s.isPlant = false) : recomputeOffer s = s := by
  simp [recomputeOffer, h]

theorem recomputeOffer_of_plant (h : s.isPlant = true) :
    recomputeOffer s = s.setHead { s.head with
      offer := (offerOf s.trip (s.reading .qavail) s.config.reserve).1
      offerBasis := (offerOf s.trip (s.reading .qavail) s.config.reserve).2 } := if_pos h

theorem offerOf_of_none {trip : Bool} {q : Option Nat} (h : trip = true ∨ q = none) (reserve : Nat) :
    offerOf trip q reserve = (0, none) := by
  unfold offerOf
  rcases h with h | h
  · rw [if_pos h]
  · subst h
    split <;> rfl

theorem offerOf_of_some {trip : Bool} (h : trip = false) (q reserve : Nat) :
    offerOf trip (some q) reserve = (q * (1000 - reserve) / 1000, some q) := by
  simp [offerOf, h]

/-- The recomputed offer of a plant station (R108, R109). -/
theorem recomputeOffer_spec (h : s.isPlant = true) :
    recomputeOffer s = s.setHead { s.head with
        offer := (recomputeOffer s).head.offer
        offerBasis := (recomputeOffer s).head.offerBasis }
      ∧ (s.trip = true ∨ s.reading .qavail = none →
          (recomputeOffer s).head.offer = 0 ∧ (recomputeOffer s).head.offerBasis = none)
      ∧ (s.trip = false → ∀ q, s.reading .qavail = some q →
          (recomputeOffer s).head.offer = q * (1000 - s.config.reserve) / 1000 ∧ (recomputeOffer s).head.offerBasis = some q) := by
  rw [recomputeOffer_of_plant h]
  refine ⟨rfl, fun hnone => ?_, fun htrip q hq => ?_⟩
  · simp [offerOf_of_none hnone]
  · simp [hq, offerOf_of_some htrip]

theorem recomputeOffer_replyValues (s : State) : (recomputeOffer s).replyValues = s.replyValues := by
  unfold recomputeOffer
  split <;> rfl

/-! ### Sample records (R124 to R126, R131) -/

theorem EventOk.role_iff (h : EventOk s) (hact : s.active = true) : s.config.role = if s.isPlant = true then .plant else .transfer := by
  cases hp : s.isPlant with
  | true => exact config_role_of_isPlant hp
  | false =>
    refine config_role_of_isTransfer ?_
    have hsome : s.control.descriptor.isSome = true := h.config.1.trans hact
    simpa [isPlant_eq_not_isTransfer hsome] using hp

/-- A complete record of the own field set (R124, R181). -/
theorem ownRecord_iff {plant : Bool} (characters : List Byte) :
    (sampleRecordComplete characters = true ∧ recordRole characters = some (if plant = true then .plant else .transfer))
      ↔ characters.length = (if plant = true then 17 else 20) ∧ characters.head? = some 0x55#8
        ∧ characters[1]? = some (if plant = true then 2#8 else 1#8) := by
  match characters with
  | [] => simp [sampleRecordComplete]
  | [lead] => simp [sampleRecordComplete]
  | lead :: code :: rest =>
    have hrole : recordRole (lead :: code :: rest) = some (if plant = true then .plant else .transfer)
        ↔ code = if plant = true then 2#8 else 1#8 := by
      have hcode : recordRole (lead :: code :: rest) = readRole code := rfl
      rw [hcode]
      cases plant with
      | true => exact readRole_eq_some_plant.trans (BitVec.toNat_inj (y := 2#8))
      | false => exact readRole_eq_some_transfer.trans (BitVec.toNat_inj (y := 1#8))
    rw [hrole]
    cases plant <;> simp [sampleRecordComplete] <;> grind

/-- The fields of a role's set, each with the upper end of its range (R125, R181). -/
def sampleSet (plant : Bool) : List (FieldName × Nat) :=
  if plant = true then [(FieldName.ts, 3000), (.tr, 3000), (.q, 20000), (.dp, 10000), (.qavail, 20000)]
  else [(.ts, 3000), (.tr, 3000), (.q, 20000), (.dp, 10000), (.vf, 10000), (.qb, 20000)]

theorem sampleSet_eq (plant : Bool) :
    sampleSet plant = (fieldSet (if plant = true then .plant else .transfer)).map fun n => (n, FieldName.top n) := by
  cases plant <;> rfl

theorem sampleSet_getElem? {n : FieldName} {k top : Nat} {plant : Bool} (h : (sampleSet plant)[k]? = some (n, top)) :
    (fieldSet (if plant = true then .plant else .transfer))[k]? = some n ∧ top = FieldName.top n := by
  rw [sampleSet_eq, List.getElem?_map] at h
  obtain ⟨m, hm, heq⟩ := Option.map_eq_some_iff.1 h
  obtain ⟨rfl, rfl⟩ := Prod.mk.inj heq
  exact ⟨hm, rfl⟩

theorem not_mem_fieldSet_of_sampleSet {n : FieldName} {plant : Bool} (h : ∀ top, (n, top) ∉ sampleSet plant) :
    n ∉ fieldSet (if plant = true then .plant else .transfer) := fun hn =>
  h (FieldName.top n) (sampleSet_eq plant ▸ List.mem_map_of_mem hn)

/-- The fields after a record (R126). -/
def State.readFields (s : State) (characters : List Byte) : Fields :=
  applyReadings s.config.holdTime (sampleReadings characters 0 (fieldSet s.config.role)) s.measure.fields

theorem readFields_get_of_not_mem {characters : List Byte} {n : FieldName} (h : n ∉ fieldSet s.config.role) :
    (s.readFields characters).get n = s.measure.fields.get n :=
  applyReadings_get_of_not_mem (by rwa [sampleReadings_map_fst]) _

theorem readFields_get {characters : List Byte} {n : FieldName} {k : Nat} (h : (fieldSet s.config.role)[k]? = some n) :
    (s.readFields characters).get n
      = judgedField s.config.holdTime (s.measure.fields.get n) (sampleReading characters k n) := by
  refine applyReadings_get_of_mem (by rw [sampleReadings_map_fst]; exact fieldSet_nodup _) ?_ _
  refine List.mem_iff_getElem?.2 ⟨k, ?_⟩
  rw [sampleReadings_getElem?, h, Nat.zero_add]
  rfl

theorem sampleReading_eq (characters : List Byte) (k : Nat) (n : FieldName) :
    sampleReading characters k n =
      if characters.getD (4 + 3 * k) 0#8 = 0#8
          ∧ 256 * (characters.getD (2 + 3 * k) 0#8).toNat + (characters.getD (3 + 3 * k) 0#8).toNat ≤ FieldName.top n
        then some (256 * (characters.getD (2 + 3 * k) 0#8).toNat + (characters.getD (3 + 3 * k) 0#8).toNat) else none := by
  have h1 : 2 + 3 * k + 1 = 3 + 3 * k := by omega
  have h2 : 2 + 3 * k + 2 = 4 + 3 * k := by omega
  simp only [sampleReading, h1, h2]

/-- A field after a record, by its state before where the reading is bad (R126). -/
theorem judgedField_none (holdTime : Nat) (f : Field) :
    (f.state = .good → judgedField holdTime f none = ⟨f.value, .held, .running (10 * holdTime)⟩)
      ∧ (f.state ≠ .good → judgedField holdTime f none = f) := by
  cases hf : f.state <;> simp [judgedField, hf]

/-- The filter's value (R131, R132). -/
theorem filteredPressure_spec {a : Nat} (ha : a ≤ 16) (dpf : Option Nat) (f : Field) :
    (f.state = .absent → filteredPressure a dpf f = none)
      ∧ (f.state = .held → filteredPressure a dpf f = dpf)
      ∧ (∀ v, f.state = .good → f.value = some v →
          (dpf = none → filteredPressure a dpf f = some v)
            ∧ ∀ p, dpf = some p → ∃ p', filteredPressure a dpf f = some p'
                ∧ (p' : Int) = p + Int.tdiv (((v : Int) - p) * a) 16
                ∧ (p ≤ p' ∧ p' ≤ v ∨ v ≤ p' ∧ p' ≤ p)) := by
  refine ⟨fun h => by simp [filteredPressure, h], fun h => by simp [filteredPressure, h], fun v h hv => ⟨?_, ?_⟩⟩
  · rintro rfl
    simp [filteredPressure, h, hv]
  · rintro p rfl
    exact ⟨filterStep a p v, by simp [filteredPressure, h, hv], filterStep_spec ha p v⟩

/-- The station with the values of a record taken up, before its offer is recomputed (R124). -/
def State.sampled (s : State) (characters : List Byte) : State :=
  s.setMeasure { s.measure with
    fields := s.readFields characters
    dpf := filteredPressure s.config.filterA s.measure.dpf (s.readFields characters).dp
    sampleTimer := .running s.config.sampleTimeout }

theorem sampleRecord_of_own {characters : List Byte} (hact : s.active = true) (hc : sampleRecordComplete characters = true)
    (hr : recordRole characters = some s.config.role) : sampleRecord characters s = recomputeOffer (s.sampled characters) := by
  simp only [sampleRecord, hact, hc, hr, decide_true, Bool.and_self, if_true]
  rfl

/-- Settles O46. -/
theorem sampleRecordMovesFields : Obligations.SampleRecordMovesFields := by
  intro characters s hs own set complete
  have hiff := ownRecord_iff (plant := s.isPlant) characters
  refine ⟨fun hact hcomplete => ?_, fun hno => ?_, rfl⟩
  · have hrole := hs.eventOk.role_iff hact
    rw [← hrole] at hiff
    obtain ⟨hc, hr⟩ := hiff.2 hcomplete
    have hexec : exec (.sampleRecord characters) s = .next (recomputeOffer (s.sampled characters)) :=
      hs.exec_of_replyValues (by rw [← sampleRecord_of_own hact hc hr]; rfl) (recomputeOffer_replyValues (s.sampled characters))
    have ha : s.config.filterA ≤ 16 :=
      ((hs.eventOk.descriptorOk hact).inRange (lo := 1) (hi := 16) (by simp [Descriptor.tunables])).2
    have hmeasure : (recomputeOffer (s.sampled characters)).measure = (s.sampled characters).measure := by simp
    have hreading (n : FieldName) : (recomputeOffer (s.sampled characters)).reading n = (s.sampled characters).reading n := by simp
    obtain ⟨habsent, hheld, hgood⟩ := filteredPressure_spec ha s.measure.dpf (s.readFields characters).dp
    refine ⟨_, hexec, ?_⟩
    rw [hmeasure, hreading]
    refine ⟨?_, rfl, rfl, rfl, fun n hn => ?_, ?_, habsent, hheld, fun v hstate hv => hgood v hstate hv,
      fun hp => ?_, fun hp => ?_⟩
    · simp [Unchanged, State.sampled]
    · exact readFields_get_of_not_mem (hrole ▸ not_mem_fieldSet_of_sampleSet hn)
    · rintro k n top v hk rfl
      obtain ⟨hset, rfl⟩ := sampleSet_getElem? hk
      have hget := readFields_get (characters := characters) (hrole ▸ hset)
      rw [sampleReading_eq] at hget
      obtain ⟨hwasGood, hwasNot⟩ := judgedField_none s.config.holdTime (s.measure.fields.get n)
      refine ⟨fun h => ?_, fun h hstate => ?_, fun h hstate => ?_⟩
      · rw [if_pos h] at hget
        exact hget
      · rw [if_neg h, hwasGood hstate] at hget
        exact hget
      · rw [if_neg h, hwasNot hstate] at hget
        exact hget
    · rw [recomputeOffer_of_not_plant (s := s.sampled characters) hp]
      rfl
    · obtain ⟨hhead, hnone, hsome⟩ := recomputeOffer_spec (s := s.sampled characters) hp
      exact ⟨congrArg State.head hhead, hnone, hsome⟩
  · refine hs.exec_of_replyValues (u := s) ?_ rfl
    have hsame : sampleRecord characters s = s := by
      refine if_neg fun h => ?_
      simp only [Bool.and_eq_true, decide_eq_true_eq] at h
      obtain ⟨⟨hact, hc⟩, hr⟩ := h
      rcases hno with hina | hinc
      · exact absurd (hact.symm.trans hina) (by decide)
      · exact hinc (hiff.1 ⟨hc, hr.trans (congrArg some (hs.eventOk.role_iff hact))⟩)
    exact congrArg (fun u => done (settle u)) hsame

/-! ### The sample timer and the hold timers (R127, R128) -/

/-- A field at the sample timer's expiry (R128). -/
theorem missedField_spec (holdTime : Nat) (f : Field) :
    (f.state = .good → missedField holdTime f = ⟨f.value, .held, .running (10 * holdTime)⟩)
      ∧ (f.state ≠ .good → missedField holdTime f = f) := by
  cases hf : f.state <;> simp [missedField, hf]

/-- A held Qavail is a plant station's (R122, R181). -/
theorem EventOk.isPlant_of_held_qavail (h : EventOk s) (hheld : (s.measure.fields.get .qavail).state = .held) :
    s.isPlant = true := by
  obtain ⟨-, -, -, hset, -, hrest⟩ := h.measure
  have hact : s.active = true := by
    by_contra hno
    have hreset := hrest (by simpa using hno)
    rw [hreset] at hheld
    exact nomatch hheld
  by_contra hno
  have hrole := h.role_iff hact
  rw [if_neg hno] at hrole
  have hreset := hset .qavail (by rw [hrole]; decide)
  rw [hreset] at hheld
  exact absurd hheld (by decide)

/-- An absent Qavail makes a plant's offer 0 (R108, R109). -/
theorem recomputeOffer_of_absent_qavail (hp : s.isPlant = true) (hq : s.reading .qavail = none) :
    recomputeOffer s = s.setHead { s.head with
      offer := 0
      offerBasis := none } := by
  rw [recomputeOffer_of_plant hp, offerOf_of_none (.inr hq)]

theorem fieldHoldTimerExpiry_of_held (h : EventOk s) {n : FieldName} (hheld : (s.measure.fields.get n).state = .held) :
    fieldHoldTimerExpiry n s = setLatch .fieldAbsent
      ((s.setMeasure { s.measure with
          fields := s.measure.fields.set n ⟨none, .absent, .stopped⟩
          dpf := if n = .dp then none else s.measure.dpf }).setHead
        (if n = .qavail then { s.head with offer := 0, offerBasis := none } else s.head)) := by
  obtain ⟨hfields, -⟩ := h.measure
  obtain ⟨-, hrun, -⟩ := hfields n
  have hrun : (s.measure.fields.get n).holdTimer.isRunning = true := by simpa [hheld] using hrun
  unfold fieldHoldTimerExpiry
  rw [if_pos hrun]
  dsimp only
  congr 1
  by_cases hn : n = .qavail
  · subst hn
    rw [if_pos rfl, if_pos rfl]
    refine recomputeOffer_of_absent_qavail ?_ ?_
    · exact h.isPlant_of_held_qavail hheld
    · exact congrArg Field.present (Fields.get_set_self s.measure.fields .qavail .atReset)
  · rw [if_neg hn, if_neg hn]
    rfl

/-- Settles O47. -/
theorem sampleAndHoldTimers : Obligations.SampleAndHoldTimers := by
  intro s hs
  have hidle {c : Instr} (h : exec c s = done (settle s)) : exec c s = .next s := hs.exec_of_replyValues h rfl
  refine ⟨fun hrun => ?_, fun hstop => ?_, fun n => ⟨fun hheld => ?_, fun hno => ?_⟩⟩
  · have hevent : eventOf .sampleTimerExpiry s = setLatch .sampleMissing (s.setMeasure { s.measure with
        fields := s.measure.fields.mapEach (missedField s.config.holdTime)
        sampleTimer := .stopped }) := if_pos hrun
    refine ⟨s.measure.fields.mapEach (missedField s.config.holdTime), _, hs.exec_event .sampleTimerExpiry, fun n => ?_, ?_⟩
    · rw [Fields.get_mapEach]
      exact missedField_spec _ _
    · rw [hevent]
      exact latchSet hs.settled hs.waiting_reports
  · refine hidle (congrArg (fun u => done (settle u)) (if_neg ?_))
    simp [hstop]
  · refine ⟨_, hs.exec_event (.fieldHoldTimerExpiry n), ?_⟩
    rw [show eventOf (.fieldHoldTimerExpiry n) s = _ from fieldHoldTimerExpiry_of_held hs.eventOk hheld]
    exact latchSet hs.settled hs.waiting_reports
  · obtain ⟨hfields, -⟩ := hs.eventOk.measure
    obtain ⟨-, hrun, -⟩ := hfields n
    refine hidle (congrArg (fun u => done (settle u)) (if_neg ?_))
    simp [hrun, hno]

/-! ### Discrete inputs (R133, R134) -/

/-- The station when a change of input i has been taken up, with the latch that it sets (R134). -/
def State.changeLatched (i : InputName) (s : State) : State :=
  if s.config.changeMask.getLsbD (InputName.bit i) = true then setLatch .inputChange (s.changeTaken i) else s.changeTaken i

theorem recogniseChange_eq (i : InputName) (s : State) : recogniseChange i s = recomputeOffer (s.changeLatched i) := rfl

/-- The arbiter reads nothing of the Head Reset Unit. -/
theorem arbitrate_setHead (s : State) (h : HeadResetUnit) : arbitrate (s.setHead h) = (arbitrate s).setHead h := by
  unfold arbitrate
  show (match s.line.inFlight with
    | some _ => _
    | none => _) = _
  cases s.line.inFlight with
  | some e => rfl
  | none =>
    show (match nextEntry s.line.waiting with
      | some (e, others) => _
      | none => _) = _
    cases nextEntry s.line.waiting <;> rfl

theorem arbitrate_recomputeOffer (s : State) : arbitrate (recomputeOffer s) = recomputeOffer (arbitrate s) := by
  cases hp : s.isPlant with
  | true => simp [recomputeOffer_of_plant hp, recomputeOffer_of_plant (s := arbitrate s) (by simpa using hp), arbitrate_setHead]
  | false => rw [recomputeOffer_of_not_plant hp, recomputeOffer_of_not_plant (s := arbitrate s) (by simpa using hp)]

/-- What the recognition reads of the station stands as before it. -/
theorem changeLatched_reads (i : InputName) (s : State) :
    (arbitrate (s.changeLatched i)).head = s.head ∧ (arbitrate (s.changeLatched i)).isPlant = s.isPlant
      ∧ (arbitrate (s.changeLatched i)).config = s.config
      ∧ (arbitrate (s.changeLatched i)).reading .qavail = s.reading .qavail := by
  unfold State.changeLatched
  split <;> simp [State.changeTaken] <;> rfl

theorem not_starting_of_active (h : s.active = true) : s.control.mode ≠ .starting := fun hm => by
  simp [State.active, Mode.active, hm] at h

section Recognised

variable (hs : Settled s) (hmode : s.control.mode ≠ .starting) (hc : s.line.waiting.countP TxEntry.isReport ≤ 1)
include hs hmode hc

/-- The setting of INPUT_CHANGE, where the change mask enables it (R134). -/
theorem changeLatched_settled (i : InputName) :
    let enabled := s.config.changeMask.getLsbD (InputName.bit i) = true
    (enabled ∧ DisplacesRestart .inputChange (s.changeTaken i) ∧ (s.changeLatched i).command.restartDue = true)
      ∨ (¬(enabled ∧ DisplacesRestart .inputChange (s.changeTaken i)) ∧ (s.changeLatched i).command.restartDue = false
        ∧ (enabled → AfterLatch .inputChange (s.changeTaken i) (arbitrate (s.changeLatched i)))
        ∧ (¬ enabled → arbitrate (s.changeLatched i) = s.changeTaken i)) := by
  intro enabled
  have hlatched : s.changeLatched i = if enabled then setLatch .inputChange (s.changeTaken i) else s.changeTaken i := rfl
  by_cases he : enabled
  · rw [hlatched, if_pos he]
    rcases setLatch_settled (s := s.changeTaken i) hs hmode hc .inputChange with ⟨hd, hdue⟩ | ⟨hd, hdue, hafter⟩
    · exact .inl ⟨he, hd, hdue⟩
    · exact .inr ⟨fun h => hd h.2, hdue, fun _ => hafter, fun h => absurd he h⟩
  · rw [hlatched, if_neg he]
    exact .inr ⟨fun h => he h.1, hs.1, fun h => absurd h he, fun _ => arbitrate_of_settled (s := s.changeTaken i) hs.2⟩

/-- The recognition of a change of an input at a settled station (R134). -/
theorem recognised (i : InputName) : Recognised i s (settle (recogniseChange i s)) := by
  have hdue : (recogniseChange i s).command.restartDue = (s.changeLatched i).command.restartDue := recomputeOffer_restartDue _
  rcases changeLatched_settled hs hmode hc i with ⟨he, hd, hreset⟩ | ⟨hno, hkept, hafter, hsame⟩
  · have hcarried := recogniseChange_carried s i
    refine ⟨fun _ _ => ?_, fun hno => ?_⟩
    · rw [settle_of_restartDue (hdue.trans hreset)]
      exact restarted_of_outlived (hcarried.outlived ⟨rfl, rfl⟩) hcarried.pending
    · exact absurd ⟨he, hd⟩ hno
  · refine ⟨fun he hd => absurd ⟨he, hd⟩ hno, fun _ => ⟨_, hafter, hsame, ?_⟩⟩
    rw [settle_of_not_restartDue (hdue.trans hkept), recogniseChange_eq, arbitrate_recomputeOffer]
    obtain ⟨hhead, hplant, hconfig, hreading⟩ := changeLatched_reads i s
    refine ⟨fun hp => recomputeOffer_of_not_plant (hplant.trans hp), fun hp => ?_⟩
    have hspec := recomputeOffer_spec (hplant.trans hp)
    rw [hhead, hconfig, hreading] at hspec
    obtain ⟨heq, hnone, hsome⟩ := hspec
    exact ⟨heq, hnone, hsome⟩

end Recognised

/-- What a change of the raw level does while the inputs are watched (R133). -/
theorem rawLevelChange_of_watched {i : InputName} {level : Level} (hact : s.active = true)
    (hne : level ≠ (s.measure.inputs.get i).raw) :
    let v := s.measure.inputs.get i
    let rawState := decide (level = activeLevel s.config i)
    (rawState = v.active → rawLevelChange i level s = setInput i { v with raw := level, debounceTimer := .stopped } s)
      ∧ (rawState ≠ v.active → s.config.debounce ≠ 0 →
          rawLevelChange i level s = setInput i { v with raw := level, debounceTimer := .running s.config.debounce } s)
      ∧ (rawState ≠ v.active → s.config.debounce = 0 →
          rawLevelChange i level s = recogniseChange i (setInput i { v with raw := level } s)) := by
  intro v rawState
  have hchange : rawLevelChange i level s = rawChanged i (setInput i { v with raw := level } s) := by
    unfold rawLevelChange
    dsimp only
    rw [if_neg (Ne.symm hne)]
    exact if_pos hact
  rw [hchange]
  unfold rawChanged
  dsimp only
  rw [setInput_get_self, setInput_setInput, setInput_setInput]
  refine ⟨fun h => if_pos h, fun h hd => ?_, fun h hd => ?_⟩
  · exact (if_neg h).trans (if_neg hd)
  · exact (if_neg h).trans (if_pos hd)

/-- Settles O48. -/
theorem inputChangesAreDebounced : Obligations.InputChangesAreDebounced := by
  intro i level s hs v with_ rawState
  have hchange {w : State} (h : rawLevelChange i level s = w) (hw : w.replyValues = s.replyValues) :
      exec (.rawLevelChange i level) s = .next w := hs.exec_of_replyValues (congrArg (fun u => done (settle u)) h) hw
  refine ⟨fun heq => hchange (if_pos heq.symm) rfl, fun hne hina => hchange ?_ rfl, fun hne hact => ?_, fun hrun => ?_, fun hstop => ?_⟩
  · unfold rawLevelChange
    dsimp only
    rw [if_neg (Ne.symm hne)]
    exact if_neg (by simp [hina])
  · obtain ⟨hsame, hstart, hnow⟩ := rawLevelChange_of_watched hact hne
    refine ⟨fun h => hchange (hsame h) rfl, fun h hd => hchange (hstart h hd) rfl,
      fun h hd => ⟨_, hs.exec_event (.rawLevelChange i level), ?_⟩⟩
    rw [show eventOf (.rawLevelChange i level) s = _ from hnow h hd]
    exact recognised (s := with_ { v with raw := level }) hs.settled (not_starting_of_active hact) hs.waiting_reports i
  · have hact : s.active = true := by
      by_contra hno
      rw [show v = s.measure.inputs.get i from rfl, hs.eventOk.measure_of_inactive (by simpa using hno)] at hrun
      cases i <;> exact nomatch hrun
    refine ⟨_, hs.exec_event (.debounceTimerExpiry i), ?_⟩
    rw [show eventOf (.debounceTimerExpiry i) s = recogniseChange i s from if_pos hrun]
    exact recognised hs.settled (not_starting_of_active hact) hs.waiting_reports i
  · refine hs.exec_of_replyValues (u := s) (congrArg (fun u => done (settle u)) (if_neg ?_)) rfl
    simpa using hstop

end Sys2Proof.Machine
end

section
/-! The line (R152 to R154, R160, R161), the reception of frames (R153 to R156), attempts (R159) and collisions
(R160). -/

namespace Sys2Proof.Machine

variable {s t u : State}

/-! ### Events that leave the queues alone -/

/-- An event that leaves the Transmit Queue alone ends as it stands. -/
theorem StationOk.exec_of_event (hs : StationOk s) {c : Instr} (h : eventOf c s = u) (hu : u.replyValues = s.replyValues) :
    Machine.exec c s = .next u := by
  simp only [State.replyValues, Prod.mk.injEq] at hu
  obtain ⟨hin, hwait, hdue⟩ := hu
  obtain ⟨hrest, hidle⟩ := hs.settled
  rw [hs.exec_event, h, settle_of_settled ⟨hdue.trans hrest, by rw [hin, hwait]; exact hidle⟩]

/-- An IDLE line is heard (R151, R152). -/
theorem EventOk.hears_of_idle (h : EventOk s) (hidle : s.line.lineState = .idle) : s.hears = true := by
  obtain ⟨-, -, -, -, -, -, -, -, -, hrest, -⟩ := h.attempt
  refine hears_iff.2 ⟨?_, .inl hidle⟩
  by_contra hno
  obtain ⟨hbusy, -⟩ := hrest (by simpa using hno)
  exact absurd (hidle.symm.trans hbusy) (by decide)

/-- The line of a station goes IDLE, and the next character is tested (R152). -/
def State.lineFree (s : State) : State :=
  s.setLine { s.line with
    lineState := .idle
    receiver := .testing }

theorem arbitrate_lineFree (s : State) : arbitrate s.lineFree = (arbitrate s).lineFree := by
  unfold arbitrate
  show (match s.line.inFlight with
    | some _ => _
    | none => _) = _
  cases s.line.inFlight with
  | some e => rfl
  | none =>
    show (match nextEntry s.line.waiting with
      | some (e, others) => _
      | none => _) = _
    cases nextEntry s.line.waiting <;> rfl

/-- A frame broken off, as LINE_IDLE finds it (R154). -/
theorem lineIdle_of_inFrame (hact : s.active = true) (hbusy : s.line.lineState = .busy) (hin : s.line.receiver.inFrame = true) :
    lineIdle s = (setLatch .damagedSeen (s.setLine { s.line with
      receiver := .skipping
      damagedFrames := countUp s.line.damagedFrames })).lineFree := by
  unfold lineIdle
  rw [if_pos (by simp [hact, hbusy]), if_pos hin]
  rfl

theorem lineIdle_of_no_frame (hact : s.active = true) (hbusy : s.line.lineState = .busy) (hno : s.line.receiver.inFrame = false) :
    lineIdle s = s.lineFree := by
  unfold lineIdle
  rw [if_pos (by simp [hact, hbusy]), if_neg (by simp [hno])]
  rfl

/-- Settles O49. -/
theorem lineEvents : Obligations.LineEvents := by
  intro character s hs u hears
  have hhears : hears ↔ s.hears = true := hears_iff.symm
  have hdeaf : ¬ hears ↔ s.hears = false := by rw [hhears]; simp
  refine ⟨fun hidle => hs.exec_of_event (c := .startBitHeard) (if_pos (hs.eventOk.hears_of_idle hidle)) rfl, fun hidle => ?_,
    fun hact hbusy => ⟨fun hno => ?_, fun hin => ?_⟩, fun hno => ?_, fun h => ?_, ?_, fun h => ?_, fun h htest => ?_, fun h => ?_,
    fun h => hs.exec_of_event (c := .silenceTimerExpiry) (if_pos h) rfl,
    fun h => hs.exec_of_event (c := .silenceTimerExpiry) (if_neg (Bool.not_eq_true _ ▸ h)) rfl⟩
  · refine hs.exec_of_event (c := .startBitHeard) ?_ rfl
    show startBitHeard s = s
    unfold startBitHeard
    split
    next h =>
      obtain ⟨-, hline⟩ := hears_iff.1 h
      rw [← hline.resolve_left hidle]
      rfl
    · rfl
  · exact hs.exec_of_event (c := .lineIdle) (lineIdle_of_no_frame hact hbusy hno) rfl
  · intro broken
    have hevent : eventOf .lineIdle s = (setLatch .damagedSeen broken).lineFree := lineIdle_of_inFrame hact hbusy hin
    have hexec := hs.exec_event .lineIdle
    have hrestart := restarted_of_event (c := .lineIdle) (s := s) rfl
    rw [hevent] at hexec hrestart
    rcases setLatch_settled (s := broken) hs.settled (not_starting_of_active hact) hs.waiting_reports .damagedSeen with
      ⟨hd, hdue⟩ | ⟨hd, hdue, hafter⟩
    · exact ⟨fun _ => ⟨_, hexec, hrestart hdue⟩, fun hno => absurd hd hno⟩
    · refine ⟨fun h => absurd h hd, fun _ => ⟨_, ?_, hafter⟩⟩
      rw [hexec, settle_of_not_restartDue (u := State.lineFree _) hdue, arbitrate_lineFree]
      rfl
  · refine hs.exec_of_event (c := .lineIdle) (if_neg ?_) rfl
    simpa [imp_iff_not_or] using hno
  · exact hs.exec_of_event (c := .breakDetected false) (if_pos (by simp [hhears.1 h])) rfl
  · exact hs.exec_of_event (c := .breakDetected true) (if_neg (by simp)) rfl
  · exact hs.exec_of_event (c := .breakDetected false) (if_neg (by simp [hdeaf.1 h])) rfl
  · exact hs.exec_of_event (c := .markerReceived character) (if_pos (Bool.and_eq_true_iff.2 ⟨hhears.1 h, decide_eq_true htest⟩)) rfl
  · refine hs.exec_of_event (c := .markerReceived character) (if_neg fun hyes => ?_) rfl
    obtain ⟨hh, htest⟩ := Bool.and_eq_true_iff.1 hyes
    exact h.elim (fun hno => hno (hhears.2 hh)) fun hno => hno (of_decide_eq_true htest)

/-! ### The groups of a frame (R153 to R156) -/

theorem countCorrected_eq (c : Bool) (s : State) : countCorrected c s = s.setLine (s.line.corrected c) := by
  cases c <;> rfl

theorem invalidHeader_iff {h1 h2 : Group} :
    invalidHeader h1 h2 = true ↔ Group.c2 h1 = 0#8 ∨ Group.c2 h1 = 255#8 ∨ 13 ≤ (Group.c1 h2).toNat := by
  simp [invalidHeader, or_assoc, Nat.succ_le_iff]

theorem isKindCode_iff {k : Byte} : isKindCode k = true ↔ 1 ≤ k.toNat ∧ k.toNat ≤ 13 := by
  simp [isKindCode]

theorem validHeader {h1 h2 : Group} (hcount : (Group.c1 h2).toNat ≤ 12) (hzero : Group.c2 h1 ≠ 0#8) (hall : Group.c2 h1 ≠ 255#8) :
    invalidHeader h1 h2 = false := by
  simp [invalidHeader, hzero, hall, hcount]

section Gathering

variable {raw : RawGroup} {c : Bool} {groups : List Group}

/-- What a good group makes of the frame in progress (R153). -/
theorem groupStep_of_gathersTo (h : GathersTo s raw c groups) : groupStep s.line raw = judgeGroups c groups := by
  obtain ⟨before, g, hr, rfl, hdecode⟩ := h
  unfold groupStep
  rw [hr]
  dsimp only
  rw [hdecode]
  cases c <;> rfl

/-- A station with a frame in progress hears the line (R152, R153). -/
theorem EventOk.hears_of_inFrame (h : EventOk s) (hin : s.line.receiver.inFrame = true) : s.hears = true := by
  obtain ⟨-, -, -, -, -, -, -, -, hreceiver, hrest, -⟩ := h.attempt
  unfold Receiver.inFrame at hin
  split at hin
  next groups hr =>
    rw [hr] at hreceiver
    refine hears_iff.2 ⟨?_, .inr hreceiver.1⟩
    by_contra hno
    obtain ⟨-, hskip⟩ := hrest (by simpa using hno)
    exact nomatch hr.symm.trans hskip
  · exact nomatch hin
  · exact nomatch hin

theorem inFrame_of_gathersTo (h : GathersTo s raw c groups) : s.line.receiver.inFrame = true := by
  obtain ⟨before, g, hr, -⟩ := h
  rw [hr]
  rfl

/-- The frame goes on while more groups are announced (R153). -/
theorem judgeGroups_of_more (h : groups.length = 1 ∨ ∃ h1 h2 body, groups = h1 :: h2 :: body
      ∧ body.length < (Group.c1 h2).toNat ∧ (Group.c1 h2).toNat ≤ 12 ∧ Group.c2 h1 ≠ 0#8 ∧ Group.c2 h1 ≠ 255#8) :
    judgeGroups c groups = .gathered c groups := by
  rcases h with h | ⟨h1, h2, body, rfl, hmore, hcount, hzero, hall⟩
  · obtain ⟨g, rfl⟩ := List.length_eq_one_iff.1 h
    rfl
  · simp [judgeGroups, validHeader hcount hzero hall, Nat.not_le.2 hmore]

/-- The frame is complete with its last announced group (R155). -/
theorem judgeGroups_of_last {h1 h2 : Group} {body : List Group} (hlast : body.length = (Group.c1 h2).toNat)
    (hcount : (Group.c1 h2).toNat ≤ 12) (hzero : Group.c2 h1 ≠ 0#8) (hall : Group.c2 h1 ≠ 255#8) :
    judgeGroups c (h1 :: h2 :: body) = .complete c (frameOfGroups h1 h2 body) := by
  simp [judgeGroups, validHeader hcount hzero hall, hlast]

theorem judgeGroups_of_invalid {h1 h2 : Group} (h : Group.c2 h1 = 0#8 ∨ Group.c2 h1 = 255#8 ∨ 13 ≤ (Group.c1 h2).toNat) :
    judgeGroups c [h1, h2] = .discarded c := by
  simp [judgeGroups, invalidHeader_iff.2 h]

end Gathering

/-- The Line Unit after a well-formed frame has ended, before the frame is counted or queued (R155, R161). -/
def State.frameHeard (c : Bool) (s : State) : LineUnit :=
  { s.line.corrected c with
    receiver := .skipping
    silenceTimer := .running (10 * s.config.silenceTime)
    isolated := false }

/-- The Line Unit after a good frame has been counted (R155). -/
def State.frameCounted (c : Bool) (s : State) : LineUnit :=
  { s.frameHeard c with goodFrames := countUp s.line.goodFrames }

section Received

variable {raw : RawGroup} {c : Bool} {f : Frame}

theorem frameReceived_of_complete (hh : s.hears = true) (hc : groupStep s.line raw = .complete c f) :
    frameReceived raw s = receiveFrame f (s.setLine { s.line.corrected c with receiver := .skipping }) := by
  unfold frameReceived
  rw [if_pos hh, hc]
  dsimp only
  rw [countCorrected_eq]
  rfl

/-- What a well-formed frame makes of the station, by its kind and its destination (R155, R156). -/
theorem receiveFrame_spec :
    let good := (1 ≤ f.kind.toNat ∧ f.kind.toNat ≤ 13) ∧ (f.destination.toNat = s.config.number ∨ f.destination = 255#8)
    let after := receiveFrame f (s.setLine { s.line.corrected c with receiver := .skipping })
    (¬ good → after = s.setLine (s.frameHeard c))
      ∧ (good → f.kind = 3#8 → after = s.setLine (s.frameCounted c))
      ∧ (good → f.kind ≠ 3#8 → after = offerFrame f (s.setLine (s.frameCounted c))) := by
  intro good after
  have hkind : (!isKindCode f.kind) = true ↔ ¬(1 ≤ f.kind.toNat ∧ f.kind.toNat ≤ 13) := by
    rw [← isKindCode_iff]
    simp
  have hafter : after = if (!isKindCode f.kind) = true then s.setLine (s.frameHeard c)
      else if f.destination.toNat ≠ s.config.number ∧ f.destination ≠ 255#8 then s.setLine (s.frameHeard c)
      else if f.kind = 3#8 then s.setLine (s.frameCounted c) else offerFrame f (s.setLine (s.frameCounted c)) := by
    cases c <;> rfl
  rw [hafter]
  refine ⟨fun hbad => ?_, fun ⟨hk, hd⟩ h3 => ?_, fun ⟨hk, hd⟩ h3 => ?_⟩
  · by_cases hk : 1 ≤ f.kind.toNat ∧ f.kind.toNat ≤ 13
    · have hd : f.destination.toNat ≠ s.config.number ∧ f.destination ≠ 255#8 := not_or.1 fun hd => hbad ⟨hk, hd⟩
      rw [if_neg (hkind.not.2 (not_not.2 hk)), if_pos hd]
    · rw [if_pos (hkind.2 hk)]
  · rw [if_neg (hkind.not.2 (not_not.2 hk)), if_neg (fun h => hd.elim h.1 h.2), if_pos h3]
  · rw [if_neg (hkind.not.2 (not_not.2 hk)), if_neg (fun h => hd.elim h.1 h.2), if_neg h3]

theorem frameDiscarded_of_discarded (hh : s.hears = true) (hc : groupStep s.line raw = .discarded c) :
    frameDiscarded raw s = setLatch .damagedSeen (s.setLine { s.line.corrected c with
      receiver := .skipping
      damagedFrames := countUp s.line.damagedFrames }) := by
  unfold frameDiscarded
  rw [if_pos hh, hc]
  dsimp only
  rw [countCorrected_eq]
  rfl

theorem groupStep_of_damaged (hin : s.line.receiver.inFrame = true) (hd : decodeGroup raw = .damaged) :
    groupStep s.line raw = .discarded false := by
  unfold groupStep
  cases hr : s.line.receiver with
  | gathering groups =>
    dsimp only
    rw [hd]
  | testing => exact nomatch (hr ▸ hin : Receiver.testing.inFrame = true)
  | skipping => exact nomatch (hr ▸ hin : Receiver.skipping.inFrame = true)

end Received

/-- Settles O50. -/
theorem groupsMakeFrames : Obligations.GroupsMakeFrames := by
  intro raw s hs
  refine ⟨fun c groups hg hmore => ?_, fun hin hdamaged => ?_, fun c h1 h2 hg hbad => ?_, fun c h1 h2 body hg hlast hcount hzero hall => ?_⟩
  · have hh := hs.eventOk.hears_of_inFrame (inFrame_of_gathersTo hg)
    refine hs.exec_of_event (c := .groupComplete raw) ?_ ?_
    · show groupComplete raw s = _
      unfold groupComplete
      rw [if_pos hh, groupStep_of_gathersTo hg, judgeGroups_of_more hmore]
      dsimp only
      rw [countCorrected_eq]
      rfl
    · rfl
  · refine ⟨_, hs.exec_event (.frameDiscarded raw), ?_⟩
    rw [show eventOf (.frameDiscarded raw) s = _ from
      frameDiscarded_of_discarded (hs.eventOk.hears_of_inFrame hin) (groupStep_of_damaged hin hdamaged)]
    exact latchSet hs.settled hs.waiting_reports
  · have hstep := (groupStep_of_gathersTo hg).trans (judgeGroups_of_invalid hbad)
    refine ⟨_, hs.exec_event (.frameDiscarded raw), ?_⟩
    rw [show eventOf (.frameDiscarded raw) s = _ from
      frameDiscarded_of_discarded (hs.eventOk.hears_of_inFrame (inFrame_of_gathersTo hg)) hstep]
    exact latchSet hs.settled hs.waiting_reports
  · intro u counted kind good f
    have hh := hs.eventOk.hears_of_inFrame (inFrame_of_gathersTo hg)
    have hstep := (groupStep_of_gathersTo hg).trans (judgeGroups_of_last hlast hcount hzero hall)
    have hevent : eventOf (.frameReceived raw) s = _ := frameReceived_of_complete hh hstep
    obtain ⟨hbad, hreply, hoffer⟩ := receiveFrame_spec (s := s) (c := c) (f := frameOfGroups h1 h2 body)
    have hthree : kind = 3 ↔ (frameOfGroups h1 h2 body).kind = 3#8 := BitVec.toNat_inj (y := 3#8)
    refine ⟨fun h => ?_, fun h h3 => ?_, fun h h3 hroom => ?_, fun h h3 hfull => ?_⟩
    · exact hs.exec_of_event (hevent.trans (hbad fun hg => h (and_assoc.1 hg))) rfl
    · exact hs.exec_of_event (hevent.trans (hreply (and_assoc.2 h) (hthree.1 h3))) rfl
    · refine hs.exec_of_event (hevent.trans ((hoffer (and_assoc.2 h) (hthree.not.1 h3)).trans (if_pos hroom))) rfl
    · have hlatch := hevent.trans ((hoffer (and_assoc.2 h) (hthree.not.1 h3)).trans (if_neg (by
        show ¬ s.line.rxQueue.length < 8
        omega)))
      refine ⟨_, hs.exec_event (.frameReceived raw), ?_⟩
      rw [hlatch]
      exact latchSet hs.settled hs.waiting_reports

/-! ### Attempts and collisions (R159, R160) -/

/-- With an entry in flight the arbiter has nothing to choose at the end of an event (R158). -/
theorem StationOk.exec_of_inFlight (hs : StationOk s) {c : Instr} (h : eventOf c s = u) {e : TxEntry}
    (hin : u.line.inFlight = some e) (hdue : u.command.restartDue = s.command.restartDue) : Machine.exec c s = .next u := by
  rw [hs.exec_event, h, settle_of_settled ⟨hdue.trans hs.settled.1, fun hno => ?_⟩]
  exact nomatch hin.symm.trans hno

/-- A station with an entry in flight is in RUNNING or HOLD (R151). -/
theorem EventOk.speaking_of_inFlight (h : EventOk s) {e : TxEntry} (hin : s.line.inFlight = some e) : s.speaking = true := by
  by_contra hno
  have hempty := h.queues.txRest (by simpa using hno)
  simp [LineUnit.txEntries, hin] at hempty

theorem attemptStart_of_idle (hspeak : s.speaking = true) (hidle : s.line.lineState = .idle) {e : TxEntry}
    (hin : s.line.inFlight = some e) : attemptStart s = startAttempt e s := by
  unfold attemptStart
  rw [hin]
  exact if_pos (by simp [hspeak, hidle])

/-- The code of the own mode in a frame (R32, R176). -/
theorem senderMode_code (s : State) : s.senderMode.code = if s.control.mode = .hold then 2#8 else 1#8 := by
  unfold State.senderMode
  split <;> rfl

/-- The code of the own role in a frame (R32, R176). -/
theorem EventOk.role_code (h : EventOk s) (hact : s.active = true) :
    Role.code s.config.role = if s.isPlant = true then 2#8 else 1#8 := by
  rw [h.role_iff hact]
  split <;> rfl

theorem reportFrame_eq (sequence : Byte) (start : Bool) (s : State) :
    reportFrame sequence start s = ⟨255#8, BitVec.ofNat 8 s.config.number, 1#8, sequence, 5#8,
      if start = true then 1#8 else 0#8, Role.code s.config.role, s.senderMode.code, reportBody s⟩ := by
  cases start <;> rfl

/-- Settles O51. -/
theorem attemptStartSendsFrame : Obligations.AttemptStartSendsFrame := by
  refine ⟨fun f => rfl, fun s hs => ?_⟩
  intro mode own role report alarm sends
  have hspeak {e : TxEntry} (hin : s.line.inFlight = some e) := hs.eventOk.speaking_of_inFlight hin
  have hrole {e : TxEntry} (hin : s.line.inFlight = some e) : Role.code s.config.role = role :=
    hs.eventOk.role_code (speaking_active (hspeak hin))
  have hmode : s.senderMode.code = mode := senderMode_code s
  have hreport {e : TxEntry} (hin : s.line.inFlight = some e) (sequence : Byte) (start : Bool) :
      reportFrame sequence start s = report sequence start := by
    rw [reportFrame_eq, hrole hin, hmode]
  have halarm {e : TxEntry} (hin : s.line.inFlight = some e) (sequence : Byte) : alarmFrame sequence s = alarm sequence := by
    rw [alarmFrame, hrole hin, hmode]
    rfl
  have hsent {e e' : TxEntry} {f : Frame} {v : State} (hidle : s.line.lineState = .idle) (hin : s.line.inFlight = some e)
      (h : startAttempt e s = sends e' f v) (hv : v.command = s.command) : exec .attemptStart s = .next (sends e' f v) :=
    hs.exec_of_inFlight (e := e') ((attemptStart_of_idle (hspeak hin) hidle hin).trans h) rfl (congrArg (·.restartDue) hv)
  refine ⟨fun hidle => ⟨fun sequence start hin => ?_, fun hin => ?_, fun sequence hin => ?_, fun hin => ?_, fun r hin => ?_⟩,
    fun hno => ?_, fun ht => ?_, fun hp => ?_⟩
  · refine hsent hidle hin ?_ rfl
    rw [← hreport hin]
    rfl
  · intro start
    refine hsent hidle hin ?_ rfl
    have hstart : start = decide (0 < s.reports.startCountdown) := by simp [start, Nat.pos_iff_ne_zero]
    rw [← hreport hin, hstart]
    rfl
  · refine hsent hidle hin ?_ rfl
    rw [← halarm hin]
    rfl
  · refine hsent hidle hin ?_ rfl
    rw [← halarm hin]
    rfl
  · refine hsent hidle hin ?_ rfl
    rw [← hrole hin, ← hmode]
    rfl
  · refine hs.exec_of_event (c := .attemptStart) ?_ rfl
    show attemptStart s = s
    unfold attemptStart
    split
    next e hin =>
      have hbusy : s.line.lineState ≠ .idle := hno.resolve_right (by simp [hin])
      exact if_neg (by simp [hbusy])
    · rfl
  · have hr := config_role_of_isTransfer ht
    rw [reportBody, presentSnapshot, hr]
    exact ⟨rfl, rfl⟩
  · have hr := config_role_of_isPlant hp
    rw [reportBody, presentSnapshot, hr]
    exact ⟨rfl, rfl⟩

/-- Settles O52. -/
theorem collisionJamsAndRetries : Obligations.CollisionJamsAndRetries := by
  intro choice order s hs
  obtain ⟨-, -, hwindow, -, -, hin, -⟩ := hs.eventOk.attempt
  refine ⟨fun hown => ?_, fun hno => ?_, fun hjam hfew => ?_, fun hno => ?_⟩
  · refine hs.exec_of_event (c := .collision) (if_pos ?_) rfl
    simp [hown, hin (.inl hown)]
  · refine hs.exec_of_event (c := .collision) (if_neg ?_) rfl
    simp [hno]
  · have hpos : 0 < min (2 * s.line.window) 128 := by
      simp only [List.mem_cons, List.not_mem_nil, or_false] at hwindow
      omega
    refine ⟨Config.holdoffDraw s.line.draws % min (2 * s.line.window) 128, Nat.mod_lt _ hpos, ?_⟩
    exact hs.exec_of_event (c := .jamEnd choice order) ((if_pos hjam).trans (if_pos hfew)) rfl
  · exact hs.exec_of_event (c := .jamEnd choice order) (if_neg hno) rfl

end Sys2Proof.Machine
end

section
/-! The pieces of a group (R174) and the report as its peers read it (R9, R178). -/

namespace Sys2Proof.Machine

variable {s t u : State}

/-! ### The characters and half words of a group (R174) -/

section Pieces

variable (a b c d : Byte) (x y : HalfWord) (w : ConditionWord)

@[simp] theorem byteGroup_c4 : Group.c4 (byteGroup a b c d) = d := BitVec.extractLsb'_append_eq_right

@[simp] theorem byteGroup_c3 : Group.c3 (byteGroup a b c d) = c :=
  (BitVec.extractLsb'_append_eq_of_le (xhi := a ++ b ++ c) (xlo := d) (by decide)).trans BitVec.extractLsb'_append_eq_right

@[simp] theorem byteGroup_c2 : Group.c2 (byteGroup a b c d) = b :=
  (BitVec.extractLsb'_append_eq_of_le (xhi := a ++ b ++ c) (xlo := d) (by decide)).trans
    ((BitVec.extractLsb'_append_eq_of_le (xhi := a ++ b) (xlo := c) (by decide)).trans BitVec.extractLsb'_append_eq_right)

@[simp] theorem byteGroup_c1 : Group.c1 (byteGroup a b c d) = a :=
  (BitVec.extractLsb'_append_eq_of_le (xhi := a ++ b ++ c) (xlo := d) (by decide)).trans
    ((BitVec.extractLsb'_append_eq_of_le (xhi := a ++ b) (xlo := c) (by decide)).trans BitVec.extractLsb'_append_eq_left)

@[simp] theorem pairGroup_high : Group.high (pairGroup x y) = x := BitVec.extractLsb'_append_eq_left

@[simp] theorem pairGroup_low : Group.low (pairGroup x y) = y := BitVec.extractLsb'_append_eq_right

@[simp] theorem wordGroup_c1 : Group.c1 (wordGroup c w) = c := BitVec.extractLsb'_append_eq_left

@[simp] theorem readWord_wordGroup : readWord (wordGroup c w) = w :=
  (BitVec.extractLsb'_append_eq_of_add_le (xhi := c) (xlo := (0#2 ++ w : BitVec 24)) (by decide)).trans
    BitVec.extractLsb'_append_eq_right

/-- The pieces of the report's group of L, class and outcome (R178). -/
theorem limiterGroup_pieces : Group.high (x ++ c ++ d) = x ∧ Group.c3 (x ++ c ++ d) = c ∧ Group.c4 (x ++ c ++ d) = d :=
  ⟨(BitVec.extractLsb'_append_eq_of_le (xhi := x ++ c) (xlo := d) (by decide)).trans BitVec.extractLsb'_append_eq_left,
    (BitVec.extractLsb'_append_eq_of_le (xhi := x ++ c) (xlo := d) (by decide)).trans BitVec.extractLsb'_append_eq_right,
    BitVec.extractLsb'_append_eq_right⟩

end Pieces

/-! ### A value put into a report and read from it (R9, R174) -/

theorem mandatory_u16 {top n : Nat} (hn : n ≤ top) (htop : top ≤ 20000) : mandatory top (u16 n) = some n := by
  have hnat : (u16 n).toNat = n := by
    simp [u16]
    omega
  have hne : u16 n ≠ 0xFFFF#16 := fun h => by
    have := congrArg BitVec.toNat h
    rw [hnat] at this
    simp at this
    omega
  rw [mandatory_of_present hne, hnat, Nat.min_eq_right hn]

theorem optional_u16Opt {top : Nat} {o : Option Nat} (ho : ∀ n ∈ o, n ≤ top) (htop : top ≤ 20000) :
    optional top (u16Opt o) = o := by
  cases o with
  | none => rfl
  | some n => exact mandatory_u16 (ho n rfl) htop

theorem readMargin_s16Opt {o : Option Int} (ho : ∀ m ∈ o, -3000 ≤ m ∧ m ≤ 3000) : readMargin (s16Opt o) = o := by
  cases o with
  | none => rfl
  | some m =>
    have hm := ho m rfl
    have hint : (s16 m).toInt = m := by
      rw [s16, BitVec.toInt_ofInt]
      exact Int.bmod_eq_of_le (by omega) (by omega)
    have hne : s16 m ≠ 0x8000#16 := fun h => by
      have := congrArg BitVec.toInt h
      rw [hint] at this
      simp at this
      omega
    rw [s16Opt, readMargin_of_present hne, hint]
    congr 1
    omega

theorem readCritical_u16Opt {o : Option Nat} (ho : ∀ n ∈ o, 1 ≤ n ∧ n ≤ 239) : readCritical (u16Opt o) = o := by
  cases o with
  | none => rfl
  | some n =>
    obtain ⟨hlow, hhigh⟩ := ho n rfl
    refine readCritical_eq_some_iff.2 ⟨?_, hlow, hhigh⟩
    simp [u16Opt, u16]
    omega

theorem readClass_u8 {n : Nat} (h : n ≤ 3) : readClass (u8 n) = some n := by
  obtain rfl | rfl | rfl | rfl : n = 0 ∨ n = 1 ∨ n = 2 ∨ n = 3 := by omega
  all_goals rfl

theorem limiterMalformed_u16 {n : Nat} (h : n ≤ 1000) : limiterMalformed (u16 n) = false := by
  have hne : u16 n ≠ 0xFFFF#16 := fun he => by
    have := congrArg BitVec.toNat he
    simp [u16] at this
    omega
  simp [limiterMalformed, hne]

theorem readPeerMode_code (m : PeerMode) : readPeerMode m.code = some m := by cases m <;> rfl

/-! ### The report as its peers read it (R9, R33, R34) -/

/-- The flags character of a transfer report, bit by bit (R178). -/
theorem transferFlags_bits (isolated shed localHand starved wide : Bool) :
    let flags : Byte := 0#3 ++ bit isolated ++ bit shed ++ bit localHand ++ bit starved ++ bit wide
    flags.getLsbD 0 = wide ∧ flags.getLsbD 1 = starved ∧ flags.getLsbD 2 = localHand ∧ flags.getLsbD 3 = shed
      ∧ flags.getLsbD 4 = isolated := by
  have hnext {w : Nat} (x : BitVec w) (b : Bool) (k : Nat) : (x ++ bit b).getLsbD (k + 1) = x.getLsbD k :=
    getLsbD_append_bit_succ x b k
  refine ⟨getLsbD_append_bit_zero _ _, (hnext _ _ 0).trans (getLsbD_append_bit_zero _ _),
    (hnext _ _ 1).trans ((hnext _ _ 0).trans (getLsbD_append_bit_zero _ _)),
    (hnext _ _ 2).trans ((hnext _ _ 1).trans ((hnext _ _ 0).trans (getLsbD_append_bit_zero _ _))),
    (hnext _ _ 3).trans ((hnext _ _ 2).trans ((hnext _ _ 1).trans ((hnext _ _ 0).trans (getLsbD_append_bit_zero _ _))))⟩

section ReadBack

variable {f : Frame}

/-- A transfer station's own report, read (R7, R9, R33). -/
theorem readTransferPart_of_own (hs : StationOk s) (ht : s.isTransfer = true) (hbody : f.body = transferBody s) :
    readTransferPart f = some
      { qr := s.valve.qr
        cls := s.config.ownClass
        grant := s.share.record.grant
        valve := s.valve.command
        margin := s.valve.margin
        wide := s.valve.wide
        starved := s.valve.starved
        localHand := s.valve.localHand
        shed := s.limit.shedInForce
        outcome := s.share.record.outcome } := by
  have hact := hs.eventOk.active_of_isTransfer ht
  obtain ⟨⟨-, hlimiter⟩, ⟨-, hqr, hqreq⟩, ⟨-, hcommand⟩, -, -, hmargin, -⟩ := hs.eventOk.valve.1 ht
  obtain ⟨hgrant, hused, -⟩ := hs.eventOk.share
  obtain ⟨-, hband, -⟩ := hs.eventOk.bandOk hact
  obtain ⟨-, hclass⟩ := (hs.eventOk.descriptorOk hact).inRange (lo := 0) (v := s.config.ownClass) (hi := 3) (by simp [Descriptor.tunables])
  have hgroup (k : Nat) : f.group k = (transferBody s).getD k 0#32 := by rw [Frame.group, hbody]
  have h0 : f.group 0 = pairGroup (u16 s.valve.qr) (u16 s.share.record.grant) := hgroup 0
  have h1 : f.group 1 = pairGroup (u16 s.valve.command) (u16Opt (s.reading .q)) := hgroup 1
  have h2 : f.group 2 = pairGroup (s16Opt s.valve.margin) (s16Opt s.valve.lastDt) := hgroup 2
  have h3 : f.group 3 = u16 s.valve.limiter ++ u8 s.config.ownClass ++ ShareOutcome.code s.share.record.outcome := hgroup 3
  have h4 : f.group 4 = wordGroup (0#3 ++ bit s.line.isolated ++ bit s.limit.shedInForce ++ bit s.valve.localHand
        ++ bit s.valve.starved ++ bit s.valve.wide) s.conditionWord := hgroup 4
  obtain ⟨hl, hc, ho⟩ := limiterGroup_pieces (u8 s.config.ownClass) (ShareOutcome.code s.share.record.outcome) (u16 s.valve.limiter)
  rw [← h3] at hl hc ho
  obtain ⟨hwide, hstarved, hlocal, hshed, -⟩ := transferFlags_bits s.line.isolated s.limit.shedInForce s.valve.localHand
    s.valve.starved s.valve.wide
  simp only [readTransferPart, h0, h1, h2, hl, hc, ho, h4, pairGroup_high, pairGroup_low, wordGroup_c1,
    mandatory_u16 (hqr.trans hqreq) (by decide), mandatory_u16 (hgrant.trans hused) (by decide),
    mandatory_u16 (hcommand.trans hband) (by decide), readClass_u8 hclass, readShareOutcome_code, limiterMalformed_u16 hlimiter,
    readMargin_s16Opt hmargin, hwide, hstarved, hlocal, hshed]
  rfl

/-- A plant station's own report, read (R8, R9, R34). -/
theorem readPlantPart_of_own (hs : StationOk s) (hp : s.isPlant = true) (hbody : f.body = plantBody s) :
    readPlantPart f = some
      { offer := s.head.offer
        head := s.head.setpoint
        flow := s.reading .q
        critical := s.head.critical
        criticalMargin := s.head.criticalMargin } := by
  have hact := hs.eventOk.active_of_isPlant hp
  obtain ⟨⟨-, hsetpoint⟩, -, hcritical, hmargin, -, hoffer, -⟩ := hs.eventOk.head.1 hp
  obtain ⟨-, hband, -⟩ := hs.eventOk.bandOk hact
  have hflow : ∀ q ∈ s.reading .q, q ≤ 20000 := fun q hq => hs.eventOk.measure.reading_le hq
  have hgroup (k : Nat) : f.group k = (plantBody s).getD k 0#32 := by rw [Frame.group, hbody]
  have h0 : f.group 0 = pairGroup (u16 s.head.offer) (u16 s.head.setpoint) := hgroup 0
  have h1 : f.group 1 = pairGroup (u16Opt (s.reading .q)) (u16Opt (s.reading .ts)) := hgroup 1
  have h2 : f.group 2 = pairGroup (u16Opt (s.reading .tr)) (s16Opt s.head.criticalMargin) := hgroup 2
  have h3 : f.group 3 = pairGroup (u16Opt s.head.critical) 0#16 := hgroup 3
  simp only [readPlantPart, h0, h1, h2, h3, pairGroup_high, pairGroup_low, mandatory_u16 hoffer (by decide),
    mandatory_u16 (hsetpoint.trans hband) (by decide), optional_u16Opt hflow (by decide), readCritical_u16Opt hcritical,
    readMargin_s16Opt hmargin]
  rfl

end ReadBack

/-- Settles O57. -/
theorem reportReadBack : Obligations.ReportReadBack := by
  intro sequence start s hs hspeak f
  have hact := speaking_active hspeak
  obtain ⟨⟨-, hnumber⟩, -⟩ := hs.eventOk.descriptorOk hact
  have hmode : readPeerMode f.senderMode = some (if s.control.mode = .hold then .hold else .running) := readPeerMode_code _
  refine ⟨getLsbD_append_bit_zero _ _, rfl, ?_, fun ht => ?_, fun hp => ?_⟩
  · show (u8 s.config.number).toNat = s.config.number
    simp [u8]
    omega
  · have hrole := config_role_of_isTransfer ht
    have hbody : f.body = transferBody s := by
      show reportBody s = _
      rw [reportBody, hrole]
    have hcode : f.senderRole = 1#8 := congrArg Role.code hrole
    have h4 : f.group 4 = wordGroup (0#3 ++ bit s.line.isolated ++ bit s.limit.shedInForce ++ bit s.valve.localHand
        ++ bit s.valve.starved ++ bit s.valve.wide) s.conditionWord := by
      rw [Frame.group, hbody]
      rfl
    obtain ⟨-, -, -, -, hisolated⟩ := transferFlags_bits s.line.isolated s.limit.shedInForce s.valve.localHand s.valve.starved
      s.valve.wide
    rw [readReport_transfer rfl hcode hmode (readTransferPart_of_own hs ht hbody), h4, wordGroup_c1, readWord_wordGroup, hisolated]
  · have hrole := config_role_of_isPlant hp
    have hbody : f.body = plantBody s := by
      show reportBody s = _
      rw [reportBody, hrole]
    have hcode : f.senderRole = 2#8 := congrArg Role.code hrole
    have h4 : f.group 4 = wordGroup (0#6 ++ bit s.trip ++ bit s.line.isolated) s.conditionWord := by
      rw [Frame.group, hbody]
      rfl
    have hisolated : (0#6 ++ bit s.trip ++ bit s.line.isolated : Byte).getLsbD 0 = s.line.isolated := getLsbD_append_bit_zero _ _
    rw [readReport_plant rfl hcode hmode (readPlantPart_of_own hs hp hbody), h4, wordGroup_c1, readWord_wordGroup, hisolated]

end Sys2Proof.Machine
end

section
/-! Errors in a group on the line (R153, R175). The syndrome and the overall parity are linear, so an error adds those of its
bits: of one bit its position, of two the exclusive or of two positions, which differ. -/

namespace Sys2Proof.Machine

variable {g : Group} {raw : RawGroup} {k j : Nat}

/-! ### Syndrome and parity are linear (R175) -/

theorem dataSyndrome_xor (g h : Group) (k : Nat) (ps : List Nat) :
    dataSyndrome (g ^^^ h) k ps = dataSyndrome g k ps ^^^ dataSyndrome h k ps := by
  induction ps generalizing k with
  | nil => simp [dataSyndrome]
  | cons p ps ih =>
    have hstep (x : Group) : dataSyndrome x k (p :: ps) = (if x.getLsbD k then p else 0) ^^^ dataSyndrome x (k + 1) ps := rfl
    have hbit : (if (g ^^^ h).getLsbD k = true then p else 0)
        = (if g.getLsbD k = true then p else 0) ^^^ (if h.getLsbD k = true then p else 0) := by
      rw [BitVec.getLsbD_xor]
      cases g.getLsbD k <;> cases h.getLsbD k <;> simp
    rw [hstep, hstep, hstep, ih, hbit, Nat.xor_assoc, Nat.xor_assoc, Nat.xor_left_comm (dataSyndrome g (k + 1) ps)]

theorem oddOnes_xor (v w n : Nat) : oddOnes (v ^^^ w) n = (oddOnes v n ^^ oddOnes w n) := by
  induction n with
  | zero => rfl
  | succ n ih =>
    rw [oddOnes_succ, oddOnes_succ, oddOnes_succ, ih, Nat.testBit_xor]
    cases v.testBit n <;> cases w.testBit n <;> simp

theorem receivedSyndrome_xor (g h : Group) (check e : Byte) :
    receivedSyndrome (g ^^^ h) (check ^^^ e) = receivedSyndrome g check ^^^ receivedSyndrome h e := by
  have hmod : (check ^^^ e).toNat % 64 = (check.toNat % 64) ^^^ (e.toNat % 64) := by
    rw [BitVec.toNat_xor, show (64 : Nat) = 2 ^ 6 from rfl, Nat.xor_mod_two_pow]
  rw [receivedSyndrome, receivedSyndrome, receivedSyndrome, dataSyndrome_xor, hmod, Nat.xor_assoc, Nat.xor_assoc,
    Nat.xor_left_comm (dataSyndrome h 0 dataPositions)]

theorem receivedOdd_xor (g h : Group) (check e : Byte) :
    receivedOdd (g ^^^ h) (check ^^^ e) = (receivedOdd g check ^^ receivedOdd h e) := by
  simp only [receivedOdd, BitVec.toNat_xor, oddOnes_xor]
  cases oddOnes g.toNat 32 <;> cases oddOnes h.toNat 32 <;> simp

/-! ### The error of one bit -/

/-- What an error of bit k adds to the data bits. -/
def dataError (k : Nat) : Group := if k < 32 then 1#32 <<< k else 0#32

/-- What an error of bit k adds to the check character. -/
def checkError (k : Nat) : Byte := if k < 32 then 0#8 else 1#8 <<< (k - 32)

/-- The syndrome of an error of bit k alone: its position in the codeword, and 0 for c6. -/
def errorSyndrome (k : Nat) : Nat := receivedSyndrome (dataError k) (checkError k)

/-- The positions of bits 0 to 37 in the codeword, and 0 for c6, which the position checks do not cover (R175). -/
def codedPositions : List Nat := dataPositions ++ [1, 2, 4, 8, 16, 32, 0]

theorem map_errorSyndrome : (List.range 39).map errorSyndrome = codedPositions := by decide

theorem codedPositions_nodup : codedPositions.Nodup := by decide

theorem errorSyndrome_eq (hk : k < codedPositions.length) : errorSyndrome k = codedPositions[k] := by
  have hbit := List.getElem_of_eq map_errorSyndrome (i := k) (by rw [map_errorSyndrome]; exact hk)
  rwa [List.getElem_map, List.getElem_range] at hbit

theorem errorSyndrome_le (hk : k < codedPositions.length) : errorSyndrome k ≤ 38 := by
  have hall : ∀ p ∈ codedPositions, p ≤ 38 := by decide
  rw [errorSyndrome_eq hk]
  exact hall _ (List.getElem_mem hk)

/-- Two bits in error have no syndrome 0. -/
theorem errorSyndrome_ne (hk : k < codedPositions.length) (hj : j < codedPositions.length) (hne : k ≠ j) :
    errorSyndrome k ^^^ errorSyndrome j ≠ 0 := by
  rw [errorSyndrome_eq hk, errorSyndrome_eq hj, Ne, Nat.xor_eq_zero_iff, codedPositions_nodup.getElem_inj_iff]
  exact hne

theorem oddOnes_zero (n : Nat) : oddOnes 0 n = false := by
  induction n with
  | zero => rfl
  | succ n ih => rw [oddOnes_succ, ih, Nat.zero_testBit]; rfl

theorem oddOnes_two_pow (k n : Nat) : oddOnes (2 ^ k) n = decide (k < n) := by
  induction n with
  | zero => simp [oddOnes]
  | succ n ih =>
    rw [oddOnes_succ, ih, Nat.testBit_two_pow]
    by_cases h : k = n
    · simp [h]
    · simp [h, Nat.le_iff_lt_or_eq]

theorem toNat_one_shiftLeft {w : Nat} (hk : k < w) : (1#w <<< k).toNat = 2 ^ k := by
  rw [← BitVec.twoPow_eq, BitVec.toNat_twoPow_of_lt hk]

/-- An error of one bit breaks the overall parity (R175). -/
theorem receivedOdd_error (hk : k < 39) : receivedOdd (dataError k) (checkError k) = true := by
  unfold receivedOdd dataError checkError
  by_cases h : k < 32
  · rw [if_pos h, if_pos h, toNat_one_shiftLeft h, oddOnes_two_pow]
    simp [h, oddOnes_zero]
  · have hlow : k - 32 < 7 := by omega
    rw [if_neg h, if_neg h, toNat_one_shiftLeft (by omega), oddOnes_two_pow]
    simp [hlow, oddOnes_zero]

theorem checkError_bit_seven : ∀ k < 39, (checkError k).getLsbD 7 = false := by decide

/-- The place of an error among the data bits, found from its syndrome (R175, step 5). -/
theorem findIdx_errorSyndrome (hk : k < codedPositions.length) :
    dataPositions.findIdx? (· == errorSyndrome k) = if k < dataPositions.length then some k else none := by
  rw [errorSyndrome_eq hk]
  split
  next h32 =>
    have hdata : codedPositions[k] = dataPositions[k] := List.getElem_append_left h32
    refine List.findIdx?_eq_some_iff_getElem.2 ⟨h32, by simp [hdata], fun j hj heq => ?_⟩
    rw [hdata, beq_iff_eq, dataPositions_nodup.getElem_inj_iff] at heq
    exact absurd heq (Nat.ne_of_lt hj)
  next h32 =>
    refine List.findIdx?_eq_none_iff.2 fun p hp => beq_eq_false_iff_ne.2 fun h => ?_
    have hrest : codedPositions[k] ∈ [1, 2, 4, 8, 16, 32, 0] := by
      rw [show codedPositions[k] = _ from List.getElem_append_right (Nat.le_of_not_lt h32)]
      exact List.getElem_mem _
    exact List.disjoint_of_nodup_append codedPositions_nodup hp (h ▸ hrest)

/-- Inverting at its syndrome puts a single error right (R175). -/
theorem invertAt_dataError (hk : k < codedPositions.length) (g : Group) : invertAt (g ^^^ dataError k) (errorSyndrome k) = g := by
  rw [invertAt, findIdx_errorSyndrome hk, dataError]
  by_cases h : k < 32
  · rw [if_pos h, if_pos (show k < dataPositions.length from h)]
    show g ^^^ 1#32 <<< k ^^^ 1#32 <<< k = g
    rw [BitVec.xor_assoc, BitVec.xor_self, BitVec.xor_zero]
  · rw [if_neg h, if_neg (show ¬ k < dataPositions.length from h)]
    exact BitVec.xor_zero

/-! ### Groups on the line -/

theorem byteGroup_of_characters (g : Group) : byteGroup (Group.c1 g) (Group.c2 g) (Group.c3 g) (Group.c4 g) = g := by
  have hjoin {start₂ start₁ len₂ : Nat} (h : start₂ = start₁ + 8) :=
    BitVec.extractLsb'_append_extractLsb'_eq_extractLsb' (x := g) (len₂ := len₂) h
  have h3 := hjoin (start₂ := 24) (start₁ := 16) (len₂ := 8) rfl
  have h2 := hjoin (start₂ := 16) (start₁ := 8) (len₂ := 16) rfl
  have h1 := hjoin (start₂ := 8) (start₁ := 0) (len₂ := 24) rfl
  simp only [Nat.reduceAdd] at h3 h2 h1
  show g.extractLsb' 24 8 ++ g.extractLsb' 16 8 ++ g.extractLsb' 8 8 ++ g.extractLsb' 0 8 = g
  rw [h3, h2, h1]
  simp

/-- The data bits of a group as heard. -/
def heardData (raw : RawGroup) : Group := byteGroup raw.c1 raw.c2 raw.c3 raw.c4

theorem heardData_hit (k : Nat) (raw : RawGroup) : heardData (RawGroup.hit k raw) = heardData raw ^^^ dataError k := by
  unfold RawGroup.hit dataError
  split
  · exact byteGroup_of_characters _
  · exact BitVec.xor_zero.symm

theorem hit_check (k : Nat) (raw : RawGroup) : (RawGroup.hit k raw).check = raw.check ^^^ checkError k := by
  unfold RawGroup.hit checkError
  split
  · exact BitVec.xor_zero.symm
  · rfl

theorem hit_framingError (k : Nat) (raw : RawGroup) : (RawGroup.hit k raw).framingError = raw.framingError := by
  unfold RawGroup.hit
  split <;> rfl

theorem decodeGroup_of_framed (h : raw.framingError = false) : decodeGroup raw = decodeChecked (heardData raw) raw.check := by
  simp [decodeGroup, h, heardData]

/-! ### Errors in a group as sent (R153, R175) -/

theorem heardData_sentGroup (g : Group) : heardData (sentGroup g) = g := byteGroup_of_characters g

theorem receivedSyndrome_sent (g : Group) : receivedSyndrome g (checkCharacter g) = 0 :=
  receivedSyndrome_eq (by decide) fun i hi => by
    rw [← bodd_eq_decide, bodd_onesAt_checkCharacter g hi, Nat.zero_testBit]

theorem decodeGroup_sentGroup (g : Group) : decodeGroup (sentGroup g) = .clean g := by
  rw [decodeGroup_of_framed rfl, heardData_sentGroup]
  refine (decodeChecked_of_even g _ (getLsbD_checkCharacter g 7) (receivedOdd_checkCharacter g)).trans (if_pos ?_)
  exact receivedSyndrome_sent g

/-- Position 0 holds no data bit. -/
theorem invertAt_zero (g : Group) : invertAt g 0 = g := rfl

/-- A group as sent with an error in it is judged by the syndrome and the parity of the error alone. -/
theorem decodeChecked_sent_xor (g h : Group) {e : Byte} (h7 : e.getLsbD 7 = false) :
    (receivedOdd h e = false → receivedSyndrome h e ≠ 0 →
        decodeChecked (g ^^^ h) (checkCharacter g ^^^ e) = .damaged)
      ∧ (receivedOdd h e = true → receivedSyndrome h e ≤ 38 →
        decodeChecked (g ^^^ h) (checkCharacter g ^^^ e)
          = .corrected (invertAt (g ^^^ h) (receivedSyndrome h e))) := by
  have hseven : (checkCharacter g ^^^ e).getLsbD 7 = false := by rw [BitVec.getLsbD_xor, getLsbD_checkCharacter, h7]; rfl
  have hsyndrome : receivedSyndrome (g ^^^ h) (checkCharacter g ^^^ e) = receivedSyndrome h e := by
    rw [receivedSyndrome_xor, receivedSyndrome_sent, Nat.zero_xor]
  have hodd : receivedOdd (g ^^^ h) (checkCharacter g ^^^ e) = receivedOdd h e := by
    rw [receivedOdd_xor, receivedOdd_checkCharacter, Bool.false_xor]
  refine ⟨fun heven hne => ?_, fun hfail hle => ?_⟩
  · rw [decodeChecked_of_even _ _ hseven (hodd.trans heven), hsyndrome, if_neg hne]
  · rw [decodeChecked_of_odd _ _ hseven (hodd.trans hfail), hsyndrome, if_pos hle]
    by_cases h0 : receivedSyndrome h e = 0
    · rw [if_pos h0, h0, invertAt_zero]
    · rw [if_neg h0]

/-- Settles O55. -/
theorem singleErrorsCorrectedDoubleDetected : Obligations.SingleErrorsCorrectedDoubleDetected := by
  intro g k j hk hj hne
  have hdata (i : Nat) : heardData (RawGroup.hit i (sentGroup g)) = g ^^^ dataError i := by rw [heardData_hit, heardData_sentGroup]
  have hcheck (i : Nat) : (RawGroup.hit i (sentGroup g)).check = checkCharacter g ^^^ checkError i := hit_check i _
  have hframed (i : Nat) : (RawGroup.hit i (sentGroup g)).framingError = false := hit_framingError i _
  refine ⟨decodeGroup_sentGroup g, ?_, ?_, ?_, fun raw h => if_pos h⟩
  · rw [decodeGroup_of_framed (hframed k), hdata, hcheck]
    obtain ⟨-, hone⟩ := decodeChecked_sent_xor g (dataError k) (checkError_bit_seven k hk)
    rw [hone (receivedOdd_error hk) (errorSyndrome_le hk)]
    exact congrArg _ (invertAt_dataError hk g)
  · rw [decodeGroup_of_framed ((hit_framingError j _).trans (hframed k)), heardData_hit, hit_check, hdata, hcheck,
      BitVec.xor_assoc, BitVec.xor_assoc]
    have h7 : (checkError k ^^^ checkError j).getLsbD 7 = false := by
      rw [BitVec.getLsbD_xor, checkError_bit_seven k hk, checkError_bit_seven j hj]
      rfl
    obtain ⟨htwo, -⟩ := decodeChecked_sent_xor g (dataError k ^^^ dataError j) h7
    refine htwo ?_ ?_
    · rw [receivedOdd_xor, receivedOdd_error hk, receivedOdd_error hj]
      rfl
    · rw [receivedSyndrome_xor]
      exact errorSyndrome_ne hk hj hne
  · rw [decodeGroup_of_framed (hframed 39), hdata, hcheck]
    refine decodeChecked_of_bit_seven _ _ ?_
    rw [BitVec.getLsbD_xor, getLsbD_checkCharacter]
    rfl

end Sys2Proof.Machine
end

section
/-! A whole frame through the receiver: the marker, the groups and the last group, one step each (R153, R155, R156). -/

namespace Sys2Proof.Machine

variable {s t u : State} {f : Frame} {rest : List Instr} {before : List Group} {g : Group}

theorem after_of_step {c : Instr} (hp : s.pending = c :: rest) (h : exec c { s with pending := rest } = .next t) (n : Nat) :
    s.after (n + 1) = t.after n := by
  have hstep : step s = .next t := by rw [step, hp]; exact h
  rw [State.after, hstep]

/-- The station within a frame: so many groups gathered and these events to come (R153). -/
def State.midFrame (s : State) (pending : List Instr) (groups : List Group) : State :=
  { s with
    pending := pending
    line := { s.line with
      lineState := .busy
      receiver := .gathering groups } }

/-- More groups of the frame are to come (R153). -/
def Awaits (groups : List Group) : Prop :=
  groups.length = 1 ∨ ∃ h1 h2 body, groups = h1 :: h2 :: body ∧ body.length < (Group.c1 h2).toNat
    ∧ (Group.c1 h2).toNat ≤ 12 ∧ Group.c2 h1 ≠ 0#8 ∧ Group.c2 h1 ≠ 255#8

/-- A group as sent joins those gathered (R153). -/
theorem exec_groupComplete_midFrame (hs : StationOk (s.midFrame rest before)) (h : Awaits (before ++ [g])) :
    exec (.groupComplete (sentGroup g)) (s.midFrame rest before) = .next (s.midFrame rest (before ++ [g])) := by
  obtain ⟨hgather, -⟩ := groupsMakeFrames (sentGroup g) (s.midFrame rest before) hs
  exact hgather false _ ⟨before, g, rfl, rfl, decodeGroup_sentGroup g⟩ h

/-- The groups of a frame but the last are gathered one by one (R153). -/
theorem after_groups (gs : List Group) (hs : StationOk (s.midFrame rest before))
    (hawaits : ∀ l, l <+: gs → l ≠ [] → Awaits (before ++ l)) (n : Nat) :
    StationOk (s.midFrame rest (before ++ gs))
      ∧ (s.midFrame (gs.map (fun g => Instr.groupComplete (sentGroup g)) ++ rest) before).after (n + gs.length)
        = (s.midFrame rest (before ++ gs)).after n := by
  induction gs generalizing before with
  | nil =>
    rw [List.append_nil]
    exact ⟨hs, rfl⟩
  | cons g gs ih =>
    have hfirst : Awaits (before ++ [g]) := hawaits [g] ⟨gs, rfl⟩ (by simp)
    let later := gs.map (fun g => Instr.groupComplete (sentGroup g)) ++ rest
    have hexec := exec_groupComplete_midFrame (s := s) (rest := later) hs hfirst
    have hnext : StationOk (s.midFrame later (before ++ [g])) := StationOk.exec (s := s.midFrame later before) hs hexec
    have hrest := ih (before := before ++ [g]) hnext fun l hl _ => by
      have := hawaits (g :: l) (List.cons_prefix_cons.2 ⟨rfl, hl⟩) (by simp)
      simpa using this
    rw [List.append_assoc, List.singleton_append] at hrest
    obtain ⟨hok, hafter⟩ := hrest
    refine ⟨hok, ?_⟩
    rw [List.length_cons, ← Nat.add_assoc]
    exact (after_of_step (s := s.midFrame (Instr.groupComplete (sentGroup g) :: later) before) rfl hexec _).trans hafter

/-- Every part of a frame but the whole awaits more (R153). -/
theorem awaits_of_prefix (hcount : f.groupCount.toNat = f.body.length) (hbody : f.body.length ≤ 12) (hzero : f.source ≠ 0#8)
    (hall : f.source ≠ 255#8) {l : List Group} (hl : l <+: f.groups) (hne : l ≠ []) (hlt : l.length < f.groups.length) :
    Awaits l := by
  match l with
  | [] => exact absurd rfl hne
  | [g] => exact .inl rfl
  | h1 :: h2 :: body =>
    obtain ⟨rfl, htail⟩ := List.cons_prefix_cons.1 hl
    obtain ⟨rfl, -⟩ := List.cons_prefix_cons.1 htail
    have hmore : body.length < f.body.length := by simpa [Frame.groups] using hlt
    refine .inr ⟨_, _, body, rfl, ?_, ?_, ?_, ?_⟩
    · rw [byteGroup_c1, hcount]
      exact hmore
    · rwa [byteGroup_c1, hcount]
    · rwa [byteGroup_c2]
    · rwa [byteGroup_c2]

theorem groups_eq_dropLast_append (f : Frame) : f.groups.dropLast ++ [f.groups.getLastD 0#32] = f.groups := by
  have hne : f.groups ≠ [] := List.cons_ne_nil _ _
  rw [List.getLastD_eq_getLast?, List.getLast?_eq_some_getLast hne]
  exact List.dropLast_concat_getLast hne

/-- The last group of a good frame that is no REPLY, with room in the Receive Queue (R155, R156). -/
theorem exec_frameReceived_midFrame (hs : StationOk (s.midFrame rest f.groups.dropLast)) (hcount : f.groupCount.toNat = f.body.length)
    (hbody : f.body.length ≤ 12) (hzero : f.source ≠ 0#8) (hall : f.source ≠ 255#8) (hlow : 1 ≤ f.kind.toNat)
    (hhigh : f.kind.toNat ≤ 13) (hreply : f.kind ≠ 3#8)
    (hmine : f.destination.toNat = s.config.number ∨ f.destination = 255#8) (hroom : s.line.rxQueue.length < 8) :
    exec (.frameReceived (sentGroup (f.groups.getLastD 0#32))) (s.midFrame rest f.groups.dropLast) = .next { s with
      pending := rest
      line := { s.line with
        lineState := .busy
        receiver := .skipping
        rxQueue := s.line.rxQueue ++ [f]
        silenceTimer := .running (10 * s.config.silenceTime)
        isolated := false
        goodFrames := min 65535 (s.line.goodFrames + 1) } } := by
  obtain ⟨-, -, -, hlast⟩ := groupsMakeFrames (sentGroup (f.groups.getLastD 0#32)) (s.midFrame rest f.groups.dropLast) hs
  have hgathers : GathersTo (s.midFrame rest f.groups.dropLast) (sentGroup (f.groups.getLastD 0#32)) false f.groups :=
    ⟨_, _, rfl, (groups_eq_dropLast_append f).symm, decodeGroup_sentGroup _⟩
  have hspec := hlast false (byteGroup f.destination f.source f.kind f.sequence)
    (byteGroup f.groupCount f.flags f.senderRole f.senderMode) f.body hgathers
  simp only [byteGroup_c1, byteGroup_c2, byteGroup_c3, byteGroup_c4] at hspec
  obtain ⟨-, -, hqueued, -⟩ := hspec hcount.symm (hcount ▸ hbody) hzero hall
  exact hqueued ⟨hlow, hhigh, hmine⟩ (fun h => hreply (BitVec.toNat_inj.1 h)) hroom

/-- Settles O56. -/
theorem frameSentIsFrameReceived : Obligations.FrameSentIsFrameReceived := by
  intro f rest s hs hact htesting hline hzero hall hcount hbody hlow hhigh hreply hmine hroom hpending
  let toCome := f.groups.dropLast.map (fun g => Instr.groupComplete (sentGroup g))
    ++ Instr.frameReceived (sentGroup (f.groups.getLastD 0#32)) :: rest
  have hevents : s.pending = .markerReceived 0x3C#8 :: toCome := by
    rw [hpending, frameEvents]
    simp [toCome]
  have hlength : f.body.length + 3 = 1 + f.groups.dropLast.length + 1 := by
    simp [Frame.groups]
    omega
  have hwaiting : StationOk { s with pending := toCome } := hs
  have hmarker : exec (.markerReceived 0x3C#8) { s with pending := toCome } = .next (s.midFrame toCome []) := by
    obtain ⟨-, -, -, -, -, -, -, hmarked, -⟩ := lineEvents 0x3C#8 _ hwaiting
    exact hmarked ⟨hact, hline⟩ htesting
  have hmid : StationOk (s.midFrame toCome []) := hwaiting.exec hmarker
  have hawaits (l : List Group) (hl : l <+: f.groups.dropLast) (hne : l ≠ []) : Awaits ([] ++ l) := by
    rw [List.nil_append]
    refine awaits_of_prefix hcount hbody hzero hall (hl.trans (List.dropLast_prefix _)) hne ?_
    have hle := hl.length_le
    simp only [List.length_dropLast, Frame.groups, List.length_cons] at hle ⊢
    omega
  obtain ⟨hgathered, hgroups⟩ := after_groups (s := s)
    (rest := Instr.frameReceived (sentGroup (f.groups.getLastD 0#32)) :: rest) f.groups.dropLast hmid hawaits 1
  rw [List.nil_append] at hgathered hgroups
  have hlast := exec_frameReceived_midFrame (rest := rest) hgathered hcount hbody hzero hall hlow hhigh hreply hmine hroom
  rw [hlength, after_of_step hevents hmarker, hgroups]
  exact after_of_step (s := s.midFrame (Instr.frameReceived (sentGroup (f.groups.getLastD 0#32)) :: rest) f.groups.dropLast) rfl hlast 0

end Sys2Proof.Machine
end

section
/-! The departure of an entry (R44, R149, R158, R160). What happens between the departure and the end of the event moves the
queue, the report's timers and the conditions only, so the station is followed by these values: `QueueAt`. -/

namespace Sys2Proof.Machine

variable {s t u v : State} {e : TxEntry}

/-! ### The queue as a value -/

/-- The entry in flight and those that wait. -/
abbrev TxQueue : Type := Option TxEntry × List TxEntry

/-- Every entry of a queue, the one in flight first. -/
def TxQueue.entries (q : TxQueue) : List TxEntry := q.1.toList ++ q.2

/-- An entry or none joins a queue. -/
def TxQueue.add (q : TxQueue) (offer : List TxEntry) : TxQueue := (q.1, q.2 ++ offer)

/-- The arbiter's choice (R158). -/
def TxQueue.chosen (q : TxQueue) : TxQueue :=
  match q.1 with
  | some _ => q
  | none =>
    match nextEntry q.2 with
    | some (e, others) => (some e, others)
    | none => q

theorem TxQueue.add_nil (q : TxQueue) : q.add [] = q := by simp [TxQueue.add]

theorem TxQueue.entries_add (q : TxQueue) (offer : List TxEntry) : (q.add offer).entries = q.entries ++ offer := by
  simp [TxQueue.entries, TxQueue.add]

theorem TxQueue.chosen_some (e : TxEntry) (w : List TxEntry) : TxQueue.chosen (some e, w) = (some e, w) := rfl

theorem TxQueue.chosen_perm (q : TxQueue) : q.chosen.entries.Perm q.entries := by
  obtain ⟨flight, w⟩ := q
  cases flight with
  | some e => exact List.Perm.refl _
  | none =>
    unfold TxQueue.chosen
    dsimp only
    split
    next e others hnext => exact (nextEntry_perm hnext).symm
    next => exact List.Perm.refl _

/-- The first entry of a kind, taken out of its place. -/
theorem takeFirst_split {p : TxEntry → Bool} {l others : List TxEntry} {a : TxEntry} (h : takeFirst p l = some (a, others)) :
    ∃ older younger, l = older ++ a :: younger ∧ others = older ++ younger ∧ p a = true ∧ older.any p = false := by
  induction l generalizing others with
  | nil => exact nomatch h
  | cons x rest ih =>
    unfold takeFirst at h
    split at h
    next hx =>
      obtain ⟨rfl, rfl⟩ := by simpa using h
      exact ⟨[], rest, rfl, rfl, hx, rfl⟩
    next hx =>
      split at h
      next b later hlater =>
        obtain ⟨rfl, rfl⟩ := by simpa using h
        obtain ⟨older, younger, rfl, rfl, ha, hno⟩ := ih hlater
        exact ⟨x :: older, younger, rfl, rfl, ha, by simp [hx, hno]⟩
      next => exact nomatch h

/-- The arbiter takes an ALARM, or else the oldest REPLY, or else the REPORT (R158). -/
theorem isNext_of_nextEntry {w others : List TxEntry} (h : nextEntry w = some (e, others)) : IsNext w e others := by
  have hnone {p : TxEntry → Bool} {l : List TxEntry} (h : takeFirst p l = none) : ∀ x ∈ l, p x = false := by
    simpa using takeFirst_eq_none.1 h
  unfold nextEntry at h
  split at h
  next r halarm =>
    obtain rfl := Option.some.inj h
    obtain ⟨older, younger, hw, ho, ha, -⟩ := takeFirst_split halarm
    exact ⟨older, younger, hw, ho, .inl ha⟩
  next hno =>
    split at h
    next r hreply =>
      obtain rfl := Option.some.inj h
      obtain ⟨older, younger, hw, ho, ha, hfirst⟩ := takeFirst_split hreply
      exact ⟨older, younger, hw, ho, .inr (.inl ⟨ha, hnone hno, by simpa using hfirst⟩)⟩
    next hnoReply =>
      obtain ⟨older, younger, hw, ho, ha, -⟩ := takeFirst_split h
      refine ⟨older, younger, hw, ho, .inr (.inr ⟨ha, fun x hx => ?_⟩)⟩
      have h1 := hnone hno x hx
      have h2 := hnone hnoReply x hx
      cases x <;> simp_all [TxEntry.isAlarm, TxEntry.isReply, TxEntry.isReport]

theorem TxQueue.chosen_nil : TxQueue.chosen (none, []) = (none, []) := rfl

theorem TxQueue.chosen_of_ne_nil {w : List TxEntry} (h : w ≠ []) :
    ∃ e others, IsNext w e others ∧ TxQueue.chosen (none, w) = (some e, others) := by
  cases hnext : nextEntry w with
  | none => exact absurd (nextEntry_eq_none hnext) h
  | some r =>
    obtain ⟨e, others⟩ := r
    exact ⟨e, others, isNext_of_nextEntry hnext, by simp [TxQueue.chosen, hnext]⟩

/-! ### The station by its queue -/

/-- v is s but for the queue, the report's values and the conditions, which are q, r and c, with no attempt made of the
entry in flight (R158). -/
structure QueueAt (s : State) (q : TxQueue) (r : ReportScheduler) (c : ConditionUnit) (v : State) : Prop where
  unchanged : Unchanged [.line, .reports, .condition] s v
  quiet : LineQuiet s v
  repliesLost : v.line.repliesLost = s.line.repliesLost
  inFlight : v.line.inFlight = q.1
  waiting : v.line.waiting = q.2
  reports : v.reports = r
  condition : v.condition = c
  attempts : v.line.attempts = 0
  window : v.line.window = 8
  holdoff_lt : ∀ h ∈ v.line.holdoff, h < 8
  holdoff_isSome : v.line.holdoff.isSome = v.line.inFlight.isSome

namespace QueueAt

variable {q : TxQueue} {r : ReportScheduler} {c : ConditionUnit}

theorem control (h : QueueAt s q r c v) : v.control = s.control := by
  obtain ⟨-, hcontrol, -⟩ := h.unchanged
  exact hcontrol (by decide)

theorem txEntries (h : QueueAt s q r c v) : v.line.txEntries = q.entries := by
  rw [LineUnit.txEntries, h.inFlight, h.waiting, TxQueue.entries]

/-- The entries that wait are exchanged. -/
theorem setWaiting (h : QueueAt s q r c v) (w : List TxEntry) :
    QueueAt s (q.1, w) r c (v.setLine { v.line with waiting := w }) :=
  ⟨h.unchanged.trans (by simp [Unchanged]), h.quiet, h.repliesLost, h.inFlight, rfl, h.reports, h.condition, h.attempts, h.window,
    h.holdoff_lt, h.holdoff_isSome⟩

theorem setReports (h : QueueAt s q r c v) (r' : ReportScheduler) :
    QueueAt s q r' c (v.setReports r') :=
  ⟨h.unchanged.trans (by simp [Unchanged]), h.quiet, h.repliesLost, h.inFlight, h.waiting, rfl, h.condition, h.attempts, h.window,
    h.holdoff_lt, h.holdoff_isSome⟩

theorem setCondition (h : QueueAt s q r c v) (c' : ConditionUnit) : QueueAt s q r c' (v.setCondition c') :=
  ⟨h.unchanged.trans (by simp [Unchanged]), h.quiet, h.repliesLost, h.inFlight, h.waiting, h.reports, rfl, h.attempts, h.window,
    h.holdoff_lt, h.holdoff_isSome⟩

theorem enqueue (h : QueueAt s q r c v) (e : TxEntry) : QueueAt s (q.add [e]) r c (enqueue e v) := by
  have hset := h.setWaiting (v.line.waiting ++ [e])
  rw [h.waiting] at hset
  rw [Machine.enqueue, h.waiting]
  exact hset

theorem arbitrate (h : QueueAt s q r c v) : QueueAt s q.chosen r c (arbitrate v) := by
  obtain ⟨flight, w⟩ := q
  have hin : v.line.inFlight = flight := h.inFlight
  have hwait : v.line.waiting = w := h.waiting
  cases flight with
  | some e =>
    rw [arbitrate_of_inFlight hin]
    exact h
  | none =>
    cases hnext : nextEntry w with
    | none =>
      have hidle : Machine.arbitrate v = v := by simp [Machine.arbitrate, hin, hwait, hnext]
      rw [hidle, TxQueue.chosen]
      simpa [hnext] using h
    | some p =>
      obtain ⟨e, others⟩ := p
      have hchosen : Machine.arbitrate v = v.setLine (drawHoldoff { v.line with
          inFlight := some e
          waiting := others
          attempts := 0
          window := Config.firstWindow }) := by
        simp [Machine.arbitrate, hin, hwait, hnext]
      have hq : TxQueue.chosen (none, w) = (some e, others) := by simp [TxQueue.chosen, hnext]
      rw [hchosen, hq]
      refine ⟨h.unchanged.trans (by simp [Unchanged]), h.quiet, h.repliesLost, rfl, rfl, h.reports, h.condition, rfl, rfl, ?_, rfl⟩
      intro k hk
      obtain rfl := Option.some.inj (Option.mem_def.1 hk)
      exact Nat.mod_lt _ (Nat.zero_lt_succ 7)

/-- The report's values when a report is queued (R42). -/
def queuedReports (s : State) (r : ReportScheduler) : ReportScheduler :=
  { r with
    reportDue := false
    intervalTimer := .running (10 * s.config.reportInterval)
    spacingTimer := .running s.config.minSpacing }

theorem queueReport_joins (h : QueueAt s q r c v) (hdue : r.reportDue = true) (hspace : r.spacingTimer.isRunning = false)
    (hnone : q.entries.any TxEntry.isReport = false) (hroom : q.entries.length < 6) :
    QueueAt s (q.add [.report none]) (queuedReports s r) c (queueReport v) := by
  have hfree : v.reports.spacingTimer.isRunning = false ∧ v.line.holdsReport = false ∧ v.line.txCount < 6 := by
    rw [LineUnit.holdsReport, LineUnit.txCount, h.txEntries, h.reports]
    exact ⟨hspace, hnone, hroom⟩
  rw [queueReport_of_free (by rw [h.reports]; exact hdue) hfree]
  have hconfig : v.config = s.config := by rw [State.config, h.control, State.config]
  have hqueued : v.reportQueued = Machine.enqueue (.report none) (v.setReports (queuedReports s r)) := by
    rw [State.reportQueued, h.reports, hconfig]
    rfl
  rw [hqueued]
  exact (h.setReports (queuedReports s r)).enqueue _

theorem queueReport_stays (h : QueueAt s q r c v)
    (hno : r.reportDue = false ∨ r.spacingTimer.isRunning = true ∨ q.entries.any TxEntry.isReport = true ∨ 6 ≤ q.entries.length) :
    QueueAt s q r c (queueReport v) := by
  rcases hno with hno | hno
  · rwa [queueReport_of_not_due (by rw [h.reports]; exact hno)]
  · rw [queueReport_of_not_free]
    · exact h
    · rwa [LineUnit.holdsReport, LineUnit.txCount, h.txEntries, h.reports]

theorem offerAlarm_room (h : QueueAt s q r c v) (hroom : q.entries.length < 6) :
    QueueAt s (q.add [.alarm none]) r c (offerAlarm v) := by
  rw [offerAlarm_of_room (by rw [LineUnit.txCount, h.txEntries]; exact hroom)]
  exact h.enqueue _

/-- In a full queue the ALARM takes the place of the last entry, a REPORT (R157). -/
theorem offerAlarm_displaces {flight : Option TxEntry} {w : List TxEntry} {o : Option (Byte × Bool)}
    (h : QueueAt s (flight, w ++ [.report o]) r c v) (hfull : 6 ≤ (TxQueue.entries (flight, w ++ [.report o])).length)
    (hnone : w.any TxEntry.isReport = false) :
    QueueAt s (flight, w ++ [.alarm none]) { r with reportDue := true } c (offerAlarm v) := by
  have htake : takeFirst TxEntry.isReport v.line.waiting = some (.report o, w) := by
    rw [h.waiting]
    simpa using takeFirst_of_split (younger := []) rfl hnone
  rw [offerAlarm_of_report (by rw [LineUnit.txCount, h.txEntries]; omega) htake, displaceReport, setReportDue]
  have hreports : (v.setLine { v.line with waiting := w ++ [.alarm none] }).reports = r := h.reports
  rw [hreports]
  exact (h.setWaiting (w ++ [.alarm none])).setReports _

theorem speaking (h : QueueAt s q r c v) : v.speaking = s.speaking := by rw [State.speaking, h.control, State.speaking]

theorem urgent (h : QueueAt s q r c v) (l : Latch) : v.urgent l = s.urgent l := by
  have hconfig : v.config = s.config := by rw [State.config, h.control, State.config]
  rw [State.urgent, hconfig, State.urgent]

theorem latched (h : QueueAt s q r c v) (hc : c.latches = s.condition.latches) (l : Latch) : v.latched l = s.latched l := by
  rw [State.latched, h.condition, hc, State.latched]

/-- A latch is marked (R143). -/
theorem markLatch (h : QueueAt s q r c v) (l : Latch) :
    QueueAt s q r { c with latches := c.latches ||| (1#14 <<< l.index) } (markLatch l v) := by
  rw [Machine.markLatch, h.condition]
  exact h.setCondition _

/-- No entry of the queue has started, so an ALARM in it absorbs any further one (R148). -/
theorem absorbsAlarm (h : QueueAt s q r c v) (hun : ∀ x ∈ q.entries, x.started = false) :
    v.line.absorbsAlarm = q.entries.any TxEntry.isAlarm := by
  rw [LineUnit.absorbsAlarm, h.txEntries, Bool.eq_iff_iff, List.any_eq_true, List.any_eq_true]
  refine exists_congr fun x => and_congr_right fun hx => ?_
  simp [hun x hx]

/-- A latch is set where an ALARM that waits or is chosen has not started, so it absorbs any further one (R148). -/
theorem setLatch (h : QueueAt s q r c v) (hspeak : s.speaking = true) (hc : c.latches = s.condition.latches)
    (hun : ∀ x ∈ q.entries, x.started = false) (l : Latch) :
    let after : ConditionUnit := { c with
      latches := if s.latched l = true then c.latches else c.latches ||| (1#14 <<< l.index) }
    let calls := s.latched l = false ∧ s.urgent l = true ∧ q.entries.any TxEntry.isAlarm = false
    (∀ {q' r'}, calls → (∀ {c v}, QueueAt s q r c v → QueueAt s q' r' c (offerAlarm v)) → QueueAt s q' r' after (setLatch l v))
      ∧ (¬ calls → QueueAt s q r after (setLatch l v)) := by
  intro after calls
  have hlatched := h.latched hc l
  have hmark := h.markLatch l
  cases hl : s.latched l with
  | true =>
    have hafter : after = c := by simp [after, hl]
    rw [hafter, setLatch_of_latched (hlatched.trans hl)]
    exact ⟨fun ⟨hno, _⟩ _ => absurd (hl.symm.trans hno) (by decide), fun _ => h⟩
  | false =>
    have hafter : after = { c with latches := c.latches ||| (1#14 <<< l.index) } := by simp [after, hl]
    rw [hafter]
    cases hu : s.urgent l with
    | false =>
      rw [setLatch_of_not_urgent (hlatched.trans hl) ((h.urgent l).trans hu)]
      exact ⟨fun ⟨_, hno, _⟩ _ => absurd (hu.symm.trans hno) (by decide), fun _ => hmark⟩
    | true =>
      rw [setLatch_of_urgent (hlatched.trans hl) ((h.urgent l).trans hu) (h.speaking.trans hspeak),
        h.absorbsAlarm hun, LineUnit.holdsAlarm, h.txEntries]
      cases halarm : q.entries.any TxEntry.isAlarm with
      | true => exact ⟨fun ⟨_, _, hno⟩ _ => absurd (halarm.symm.trans hno) (by decide), fun _ => hmark⟩
      | false => exact ⟨fun _ hplace => hplace hmark, fun hno => absurd ⟨hl, hu, halarm⟩ hno⟩

end QueueAt

/-- The conditions after the departure of e (R149, R160). -/
def conditionAfter (abandoned : Bool) (e : TxEntry) (s : State) : ConditionUnit :=
  { s.condition with
    alarmDue := s.condition.alarmDue && !e.isAlarm
    latches := if (!abandoned || s.latched .txAbandon) = true then s.condition.latches
      else s.condition.latches ||| (1#14 <<< Latch.index .txAbandon) }

/-- The departure of e makes the Condition Unit offer an ALARM, where the queue holds these others (R148, R149, R160). -/
def AlarmJoins (abandoned : Bool) (e : TxEntry) (s : State) (others : List TxEntry) : Prop :=
  (e.isAlarm = true ∧ s.condition.alarmDue = true)
    ∨ ((abandoned && (!s.latched .txAbandon && s.urgent .txAbandon)) = true ∧ others.any TxEntry.isAlarm = false)

/-- What the Condition Unit offers and latches at a departure (R149, R160). -/
theorem QueueAt.departureAlarm {q : TxQueue} {r : ReportScheduler} (h : QueueAt s q r s.condition v)
    (hspeak : s.speaking = true) (hun : ∀ x ∈ q.entries, x.started = false) (abandoned : Bool) (e : TxEntry) :
    (∀ {q' r'}, AlarmJoins abandoned e s q.entries → (∀ {c v}, QueueAt s q r c v → QueueAt s q' r' c (offerAlarm v)) →
        (∀ x ∈ q'.entries, x.started = false) → q'.entries.any TxEntry.isAlarm = true →
        QueueAt s q' r' (conditionAfter abandoned e s) (departureAlarm abandoned e v))
      ∧ (¬ AlarmJoins abandoned e s q.entries → QueueAt s q r (conditionAfter abandoned e s) (departureAlarm abandoned e v)) := by
  have hfirst : (if (e.isAlarm && v.speaking) = true then offerDueAlarm v else v)
      = if e.isAlarm = true ∧ s.condition.alarmDue = true then offerAlarm (setAlarmDue false v) else v := by
    rw [h.speaking, hspeak, Bool.and_true, offerDueAlarm, h.condition]
    by_cases h1 : e.isAlarm = true
    · by_cases h2 : s.condition.alarmDue = true <;> simp [h1, h2]
    · simp [h1]
  unfold Machine.departureAlarm
  rw [hfirst]
  dsimp only
  have hcondition (due : Bool) (h : (s.condition.alarmDue && !e.isAlarm) = due) : conditionAfter abandoned e s =
      { s.condition with
        alarmDue := due
        latches := if (!abandoned || s.latched .txAbandon) = true then s.condition.latches
          else s.condition.latches ||| (1#14 <<< Latch.index .txAbandon) } := by
    rw [conditionAfter, h]
  by_cases hdue : e.isAlarm = true ∧ s.condition.alarmDue = true
  · rw [hcondition false (by simp [hdue.1]), if_pos hdue]
    refine ⟨fun _ hplace hun' hheld => ?_, fun hno => absurd (.inl hdue) hno⟩
    have hoffered := hplace (c := { s.condition with alarmDue := false }) (v := setAlarmDue false v) (by
      rw [setAlarmDue, h.condition]
      exact h.setCondition _)
    cases abandoned with
    | false => exact hoffered
    | true =>
      obtain ⟨-, habsorbed⟩ := hoffered.setLatch hspeak rfl hun' .txAbandon
      exact habsorbed fun ⟨_, _, hno⟩ => absurd (hheld.symm.trans hno) (by decide)
  · have hkept : (s.condition.alarmDue && !e.isAlarm) = s.condition.alarmDue := by
      cases h1 : e.isAlarm <;> cases h2 : s.condition.alarmDue <;> simp_all
    rw [hcondition _ hkept, if_neg hdue]
    cases abandoned with
    | false => exact ⟨fun hjoins _ _ _ => absurd hjoins (by simp [AlarmJoins, hdue]), fun _ => h⟩
    | true =>
      obtain ⟨hcalls, hno⟩ := h.setLatch hspeak rfl hun .txAbandon
      have hiff : AlarmJoins true e s q.entries ↔ s.latched .txAbandon = false ∧ s.urgent .txAbandon = true
          ∧ q.entries.any TxEntry.isAlarm = false := by
        simp [AlarmJoins, hdue, and_assoc]
      rw [hiff]
      exact ⟨fun hj hplace _ _ => hcalls hj hplace, hno⟩

/-! ### The offers of a departure, with room for them (R44, R149, R157) -/

/-- A report joins the queue at a departure, where the queue holds these others (R42, R44). -/
def ReportJoins (s : State) (others : List TxEntry) : Prop :=
  s.reports.reportDue = true ∧ s.reports.spacingTimer.isRunning = false ∧ others.any TxEntry.isReport = false

/-- What is offered where the entry x joins under a condition. -/
def Offered (joins : Prop) (x : TxEntry) (offer : List TxEntry) : Prop := (joins ∧ offer = [x]) ∨ (¬ joins ∧ offer = [])

/-- The report's values after its offer. -/
def reportsAfter (s : State) (offer : List TxEntry) : ReportScheduler :=
  if offer.isEmpty = true then s.reports else QueueAt.queuedReports s s.reports

section Offers

variable {q : TxQueue} {l offer : List TxEntry} {abandoned : Bool} {c : ConditionUnit}

theorem exists_offered (joins : Prop) (x : TxEntry) : ∃ offer, Offered joins x offer := by
  by_cases h : joins
  · exact ⟨_, .inl ⟨h, rfl⟩⟩
  · exact ⟨_, .inr ⟨h, rfl⟩⟩

theorem Offered.congr {joins joins' : Prop} {x : TxEntry} (h : Offered joins x offer) (hiff : joins ↔ joins') :
    Offered joins' x offer := by
  unfold Offered at h ⊢
  rwa [← hiff]

/-- An offer leaves the kinds it is not of as they were. -/
theorem Offered.any_append {joins : Prop} {x : TxEntry} (h : Offered joins x offer) {p : TxEntry → Bool} (hx : p x = false)
    (w : List TxEntry) : (w ++ offer).any p = w.any p := by
  rcases h with ⟨-, rfl⟩ | ⟨-, rfl⟩ <;> simp [hx]

theorem Offered.unstarted {joins : Prop} {x : TxEntry} (h : Offered joins x offer) (hx : x.started = false) {w : List TxEntry}
    (hw : ∀ y ∈ w, y.started = false) : ∀ y ∈ w ++ offer, y.started = false := by
  intro y hy
  rcases List.mem_append.1 hy with hy | hy
  · exact hw y hy
  · rcases h with ⟨-, rfl⟩ | ⟨-, rfl⟩
    · obtain rfl := List.mem_singleton.1 hy
      exact hx
    · exact nomatch hy

theorem alarmJoins_congr {a b : List TxEntry} (h : a.any TxEntry.isAlarm = b.any TxEntry.isAlarm) :
    AlarmJoins abandoned e s a ↔ AlarmJoins abandoned e s b := by
  unfold AlarmJoins
  rw [h]

theorem reportJoins_congr {a b : List TxEntry} (h : a.any TxEntry.isReport = b.any TxEntry.isReport) :
    ReportJoins s a ↔ ReportJoins s b := by
  unfold ReportJoins
  rw [h]

theorem QueueAt.reportOffer (h : QueueAt s q s.reports c v) (hq : q.entries.Perm l) (ho : Offered (ReportJoins s l) (.report none) offer)
    (hroom : l.length + offer.length ≤ 6) : QueueAt s (q.add offer) (reportsAfter s offer) c (queueReport v) := by
  have hreport := hq.any_eq (f := TxEntry.isReport)
  have hlength := hq.length_eq
  rcases ho with ⟨⟨hdue, hspace, hnone⟩, rfl⟩ | ⟨hno, rfl⟩
  · exact h.queueReport_joins hdue hspace (hreport.trans hnone) (by simp at hroom; omega)
  · rw [TxQueue.add_nil]
    refine h.queueReport_stays ?_
    rw [hreport]
    by_contra hall
    simp only [not_or, Bool.not_eq_false, Bool.not_eq_true] at hall
    obtain ⟨hdue, hspace, hnone, -⟩ := hall
    exact hno ⟨hdue, hspace, hnone⟩

theorem QueueAt.alarmOffer {r : ReportScheduler} (h : QueueAt s q r s.condition v) (hspeak : s.speaking = true) (hq : q.entries.Perm l)
    (hun : ∀ x ∈ l, x.started = false) (ho : Offered (AlarmJoins abandoned e s l) (.alarm none) offer)
    (hroom : l.length + offer.length ≤ 6) :
    QueueAt s (q.add offer) r (conditionAfter abandoned e s) (Machine.departureAlarm abandoned e v) := by
  have hunq : ∀ x ∈ q.entries, x.started = false := fun x hx => hun x (hq.mem_iff.1 hx)
  have hjoins := alarmJoins_congr (abandoned := abandoned) (e := e) (s := s) (hq.any_eq (f := TxEntry.isAlarm))
  obtain ⟨hcalls, hno⟩ := h.departureAlarm hspeak hunq abandoned e
  rcases ho with ⟨hj, rfl⟩ | ⟨hj, rfl⟩
  · have hlength : q.entries.length < 6 := by
      rw [hq.length_eq]
      simpa using hroom
    refine hcalls (hjoins.2 hj) (fun h => h.offerAlarm_room hlength) ?_ ?_
    · rw [TxQueue.entries_add]
      exact Offered.unstarted (.inl ⟨trivial, rfl⟩) rfl hunq
    · rw [TxQueue.entries_add]
      simp [TxEntry.isAlarm]
  · rw [TxQueue.add_nil]
    exact hno (hjoins.not.2 hj)

end Offers

/-! ### The orders of a departure (R158, log 7) -/

/-- The queue after the departure of the entry in flight, where w waits and these offers join in turn. -/
def TxQueue.afterDeparture (choice : ChoiceOrder) (w first second : List TxEntry) : TxQueue :=
  match choice with
  | .choiceFirst => ((TxQueue.add (TxQueue.chosen (none, w)) first).chosen.add second).chosen
  | .offersFirst => ((TxQueue.add (none, w) first).add second).chosen
  | .latchFirst => ((TxQueue.add (none, w) first).add second).chosen

section Orders

variable {w a r : List TxEntry} {abandoned : Bool}

theorem TxQueue.chosen_perm_of {q : TxQueue} {l : List TxEntry} (h : q.entries.Perm l) : q.chosen.entries.Perm l :=
  q.chosen_perm.trans h

theorem TxQueue.add_perm_of {q : TxQueue} {l : List TxEntry} (h : q.entries.Perm l) (o : List TxEntry) :
    (q.add o).entries.Perm (l ++ o) := by
  rw [TxQueue.entries_add]
  exact h.append_right o

/-- The station right after the in-flight entry has left the queue (R158). -/
theorem queueAt_departed (hmarked : e.marked = false) :
    QueueAt s (none, s.line.waiting) s.reports s.condition (noteDeparture e (clearInFlight s)) := by
  have hnote : noteDeparture e (clearInFlight s) = clearInFlight s := by
    simp [noteDeparture, hmarked, clearInFlight, State.setLine, State.setCommand]
  rw [hnote]
  exact ⟨by simp [Unchanged, clearInFlight], ⟨rfl, rfl, rfl, rfl, rfl, rfl, rfl, rfl, rfl, rfl, rfl, rfl⟩, rfl, rfl, rfl, rfl, rfl, rfl,
    rfl, nofun, rfl⟩

theorem QueueAt.settle {q : TxQueue} {r : ReportScheduler} {c : ConditionUnit} (h : QueueAt s q r c v)
    (hdue : s.command.restartDue = false) : QueueAt s q.chosen r c (settle v) := by
  obtain ⟨-, -, -, -, -, -, -, -, -, -, hcommand, -⟩ := h.unchanged
  rw [settle_of_not_restartDue (by rw [hcommand (by decide)]; exact hdue)]
  exact h.arbitrate

theorem depart_of_inFlight (hin : s.line.inFlight = some e) (choice : ChoiceOrder) :
    let s1 := noteDeparture e (clearInFlight s)
    depart abandoned choice .alarmFirst s =
        (match choice with
        | .choiceFirst => queueReport (arbitrate (departureAlarm abandoned e (arbitrate s1)))
        | _ => queueReport (departureAlarm abandoned e s1))
      ∧ depart abandoned choice .otherFirst s =
        (match choice with
        | .choiceFirst => departureAlarm abandoned e (arbitrate (queueReport (arbitrate s1)))
        | _ => departureAlarm abandoned e (queueReport s1)) := by
  unfold depart
  rw [hin]
  cases choice <;> exact ⟨rfl, rfl⟩

/-- The ALARM of a departure takes the place of the REPORT that has just filled the queue (R157). -/
theorem QueueAt.alarmDisplaces {flight : Option TxEntry} {x l : List TxEntry} {r : ReportScheduler}
    (h : QueueAt s (flight, x ++ [.report none]) r s.condition v) (hspeak : s.speaking = true)
    (hq : (TxQueue.entries (flight, x)).Perm l) (hfull : l.length = 5) (hun : ∀ y ∈ l, y.started = false)
    (hnone : l.any TxEntry.isReport = false) (hjoins : AlarmJoins abandoned e s l) :
    QueueAt s (flight, x ++ [.alarm none]) { r with reportDue := true } (conditionAfter abandoned e s)
      (Machine.departureAlarm abandoned e v) := by
  have hentries (y : TxEntry) : TxQueue.entries (flight, x ++ [y]) = TxQueue.entries (flight, x) ++ [y] := by
    simp [TxQueue.entries]
  have hperm (y : TxEntry) : (TxQueue.entries (flight, x ++ [y])).Perm (l ++ [y]) := hentries y ▸ hq.append_right [y]
  have hlast (y : TxEntry) (hy : y.started = false) : ∀ z ∈ TxQueue.entries (flight, x ++ [y]), z.started = false := fun z hz =>
    Offered.unstarted (.inl ⟨trivial, rfl⟩) hy hun z ((hperm y).mem_iff.1 hz)
  have hx : x.any TxEntry.isReport = false := by
    rw [← hq.any_eq, TxQueue.entries, List.any_append, Bool.or_eq_false_iff] at hnone
    exact hnone.2
  obtain ⟨hcalls, -⟩ := h.departureAlarm hspeak (hlast _ rfl) abandoned e
  refine hcalls ?_ (fun h => h.offerAlarm_displaces ?_ hx) (hlast _ rfl) ?_
  · refine (alarmJoins_congr ?_).2 hjoins
    rw [(hperm _).any_eq]
    simp [TxEntry.isAlarm]
  · rw [(hperm _).length_eq]
    simp [hfull]
  · rw [(hperm _).any_eq]
    simp [TxEntry.isAlarm]

variable (hspeak : s.speaking = true) (hdue : s.command.restartDue = false) (hun : ∀ x ∈ s.line.waiting, x.started = false)
  (hin : s.line.inFlight = some e) (hmarked : e.marked = false)
include hspeak hdue hun hin hmarked

/-- A departure with room for its offers (R44, R149, R158). -/
theorem depart_room (choice : ChoiceOrder) (order : OfferOrder)
    (ha : Offered (AlarmJoins abandoned e s s.line.waiting) (.alarm none) a)
    (hr : Offered (ReportJoins s s.line.waiting) (.report none) r) (hroom : s.line.waiting.length + (a.length + r.length) ≤ 6) :
    QueueAt s (TxQueue.afterDeparture choice s.line.waiting (if order = .alarmFirst then a else r) (if order = .alarmFirst then r else a))
      (reportsAfter s r) (conditionAfter abandoned e s) (settle (depart abandoned choice order s)) := by
  have hbase := queueAt_departed (s := s) hmarked
  have hperm : TxQueue.entries (none, s.line.waiting) |>.Perm s.line.waiting := List.Perm.refl _
  have ha' : Offered (AlarmJoins abandoned e s (s.line.waiting ++ r)) (.alarm none) a :=
    ha.congr (alarmJoins_congr (hr.any_append rfl _).symm)
  have hr' : Offered (ReportJoins s (s.line.waiting ++ a)) (.report none) r :=
    hr.congr (reportJoins_congr (ha.any_append rfl _).symm)
  have hun' : ∀ x ∈ s.line.waiting ++ r, x.started = false := hr.unstarted rfl hun
  have hroomA : s.line.waiting.length + a.length ≤ 6 := by omega
  have hroomR : s.line.waiting.length + r.length ≤ 6 := by omega
  have hroomAR : (s.line.waiting ++ a).length + r.length ≤ 6 := by rw [List.length_append]; omega
  have hroomRA : (s.line.waiting ++ r).length + a.length ≤ 6 := by rw [List.length_append]; omega
  cases order with
  | alarmFirst =>
    obtain ⟨hdepart, -⟩ := depart_of_inFlight (abandoned := abandoned) hin choice
    rw [hdepart]
    have hplain := (((hbase.alarmOffer hspeak hperm hun ha hroomA).reportOffer (TxQueue.add_perm_of hperm a) hr' hroomAR).settle hdue)
    cases choice with
    | choiceFirst =>
      have hchosen := TxQueue.chosen_perm_of hperm
      exact (((hbase.arbitrate.alarmOffer hspeak hchosen hun ha hroomA).arbitrate.reportOffer
        (TxQueue.chosen_perm_of (TxQueue.add_perm_of hchosen a)) hr' hroomAR).settle hdue)
    | offersFirst => exact hplain
    | latchFirst => exact hplain
  | otherFirst =>
    obtain ⟨-, hdepart⟩ := depart_of_inFlight (abandoned := abandoned) hin choice
    rw [hdepart]
    have hplain := (((hbase.reportOffer hperm hr hroomR).alarmOffer hspeak (TxQueue.add_perm_of hperm r) hun' ha' hroomRA).settle hdue)
    cases choice with
    | choiceFirst =>
      have hchosen := TxQueue.chosen_perm_of hperm
      exact (((hbase.arbitrate.reportOffer hchosen hr hroomR).arbitrate.alarmOffer hspeak
        (TxQueue.chosen_perm_of (TxQueue.add_perm_of hchosen r)) hun' ha' hroomRA).settle hdue)
    | offersFirst => exact hplain
    | latchFirst => exact hplain

/-- A departure that leaves five entries and makes both offers: the report waits on, by not joining or by giving way to the
ALARM (R42, R43, R157). -/
theorem depart_full (choice : ChoiceOrder) (order : OfferOrder) (ha : AlarmJoins abandoned e s s.line.waiting)
    (hr : ReportJoins s s.line.waiting) (hfive : s.line.waiting.length = 5) :
    ∃ q r, QueueAt s q r (conditionAfter abandoned e s) (settle (depart abandoned choice order s))
      ∧ q.entries.Perm (s.line.waiting ++ [.alarm none])
      ∧ (r = s.reports ∨ r = { QueueAt.queuedReports s s.reports with reportDue := true }) := by
  have hbase := queueAt_departed (s := s) hmarked
  have hperm : TxQueue.entries (none, s.line.waiting) |>.Perm s.line.waiting := List.Perm.refl _
  have haOffer : Offered (AlarmJoins abandoned e s s.line.waiting) (.alarm none) [.alarm none] := .inl ⟨ha, rfl⟩
  have hrOffer : Offered (ReportJoins s s.line.waiting) (.report none) [.report none] := .inl ⟨hr, rfl⟩
  have hroom (x : TxEntry) : s.line.waiting.length + [x].length ≤ 6 := by simp [hfive]
  cases order with
  | alarmFirst =>
    obtain ⟨hdepart, -⟩ := depart_of_inFlight (abandoned := abandoned) hin choice
    rw [hdepart]
    have hstays {q : TxQueue} {c : ConditionUnit} {v : State} (h : QueueAt s q s.reports c v)
        (hq : q.entries.Perm (s.line.waiting ++ [.alarm none])) : ∃ q r, QueueAt s q r c (Machine.settle (queueReport v))
          ∧ q.entries.Perm (s.line.waiting ++ [.alarm none])
          ∧ (r = s.reports ∨ r = { QueueAt.queuedReports s s.reports with reportDue := true }) :=
      ⟨_, _, (h.queueReport_stays (.inr (.inr (.inr (by rw [hq.length_eq]; simp [hfive]))))).settle hdue,
        TxQueue.chosen_perm_of hq, .inl rfl⟩
    have hplain := hstays (hbase.alarmOffer hspeak hperm hun haOffer (hroom _)) (TxQueue.add_perm_of hperm _)
    cases choice with
    | choiceFirst =>
      have hchosen := TxQueue.chosen_perm_of hperm
      exact hstays (hbase.arbitrate.alarmOffer hspeak hchosen hun haOffer (hroom _)).arbitrate
        (TxQueue.chosen_perm_of (TxQueue.add_perm_of hchosen _))
    | offersFirst => exact hplain
    | latchFirst => exact hplain
  | otherFirst =>
    obtain ⟨-, hdepart⟩ := depart_of_inFlight (abandoned := abandoned) hin choice
    rw [hdepart]
    have hdisplaced {flight : Option TxEntry} {x : List TxEntry} {v : State}
        (h : QueueAt s (flight, x ++ [.report none]) (QueueAt.queuedReports s s.reports) s.condition v)
        (hq : (TxQueue.entries (flight, x)).Perm s.line.waiting) :
        ∃ q r, QueueAt s q r (conditionAfter abandoned e s) (Machine.settle (departureAlarm abandoned e v))
          ∧ q.entries.Perm (s.line.waiting ++ [.alarm none])
          ∧ (r = s.reports ∨ r = { QueueAt.queuedReports s s.reports with reportDue := true }) :=
      ⟨_, _, (h.alarmDisplaces hspeak hq hfive hun hr.2.2 ha).settle hdue,
        TxQueue.chosen_perm_of (TxQueue.add_perm_of (q := (flight, x)) hq _), .inr rfl⟩
    have hplain := hdisplaced (hbase.reportOffer hperm hrOffer (hroom _)) hperm
    cases choice with
    | choiceFirst =>
      have hne : s.line.waiting ≠ [] := List.ne_nil_of_length_eq_add_one hfive
      obtain ⟨first, others, -, hchosen⟩ := TxQueue.chosen_of_ne_nil hne
      have hperm' := TxQueue.chosen_perm_of hperm
      have hqueued := (hbase.arbitrate.reportOffer hperm' hrOffer (hroom _)).arbitrate
      rw [hchosen] at hqueued hperm'
      exact hdisplaced hqueued hperm'
    | offersFirst => exact hplain
    | latchFirst => exact hplain

end Orders

/-! ### The choice after a departure (R158) -/

theorem TxQueue.chosen_singleton (x : TxEntry) : TxQueue.chosen (none, [x]) = (some x, []) := by cases x <;> rfl

theorem TxQueue.chosen_of_offer {offer : List TxEntry} (h : offer = [] ∨ ∃ x, offer = [x]) :
    TxQueue.chosen (none, offer) = (offer.head?, offer.tail) := by
  rcases h with rfl | ⟨x, rfl⟩
  · rfl
  · exact TxQueue.chosen_singleton x

/-- The queue of choiceFirst, by whether entries wait at the departure (R158). -/
theorem TxQueue.afterDeparture_choiceFirst {w first second : List TxEntry} (hfirst : first = [] ∨ ∃ x, first = [x])
    (hsecond : second = [] ∨ ∃ x, second = [x]) :
    (w = [] → TxQueue.afterDeparture .choiceFirst w first second = ((first ++ second).head?, (first ++ second).tail))
      ∧ (w ≠ [] → ∃ e others, IsNext w e others
          ∧ TxQueue.afterDeparture .choiceFirst w first second = (some e, others ++ (first ++ second))) := by
  refine ⟨?_, fun hne => ?_⟩
  · rintro rfl
    show ((TxQueue.chosen (none, first)).add second).chosen = _
    rw [TxQueue.chosen_of_offer hfirst]
    rcases hfirst with rfl | ⟨x, rfl⟩
    · exact TxQueue.chosen_of_offer hsecond
    · rfl
  · obtain ⟨e, others, hnext, hchosen⟩ := TxQueue.chosen_of_ne_nil hne
    refine ⟨e, others, hnext, ?_⟩
    unfold TxQueue.afterDeparture
    dsimp only
    rw [hchosen, ← List.append_assoc]
    rfl

/-- The queue of the other orders, by whether entries wait or join (R158). -/
theorem TxQueue.afterDeparture_offersFirst {choice : ChoiceOrder} (hchoice : choice ≠ .choiceFirst) (w first second : List TxEntry) :
    (w ++ (first ++ second) = [] → TxQueue.afterDeparture choice w first second = (none, []))
      ∧ (w ++ (first ++ second) ≠ [] → ∃ e others, IsNext (w ++ (first ++ second)) e others
          ∧ TxQueue.afterDeparture choice w first second = (some e, others)) := by
  have hqueue : TxQueue.afterDeparture choice w first second = TxQueue.chosen (none, w ++ (first ++ second)) := by
    cases choice with
    | choiceFirst => exact absurd rfl hchoice
    | offersFirst => simp [TxQueue.afterDeparture, TxQueue.add]
    | latchFirst => simp [TxQueue.afterDeparture, TxQueue.add]
  rw [hqueue]
  exact ⟨fun h => h ▸ TxQueue.chosen_nil, fun h => TxQueue.chosen_of_ne_nil h⟩

/-- The queue after a departure with room for its offers, as the arbiter leaves it (R158). -/
theorem chosenAfter {choice : ChoiceOrder} {w first second : List TxEntry} {r : ReportScheduler} {c : ConditionUnit}
    (h : QueueAt s (TxQueue.afterDeparture choice w first second) r c v) (hfirst : first = [] ∨ ∃ x, first = [x])
    (hsecond : second = [] ∨ ∃ x, second = [x]) : ChosenAfter choice w (first ++ second) v.line := by
  have hqueue {q : TxQueue} (hq : TxQueue.afterDeparture choice w first second = q) :
      v.line.inFlight = q.1 ∧ v.line.waiting = q.2 := hq ▸ ⟨h.inFlight, h.waiting⟩
  refine ⟨h.attempts, h.window, h.holdoff_lt, h.holdoff_isSome, fun hempty => ?_, fun hne hchoice => ?_, fun hne hchoice => ?_,
    fun hempty hchoice => ?_⟩
  · by_cases hchoice : choice = .choiceFirst
    · subst hchoice
      obtain ⟨rfl, hoffers⟩ := List.append_eq_nil_iff.1 hempty
      obtain ⟨hnone, -⟩ := TxQueue.afterDeparture_choiceFirst (w := []) hfirst hsecond
      have hq := hnone rfl
      rw [hoffers] at hq
      exact hqueue hq
    · obtain ⟨hnone, -⟩ := TxQueue.afterDeparture_offersFirst hchoice w first second
      exact hqueue (hnone hempty)
  · obtain ⟨-, hsome⟩ := TxQueue.afterDeparture_offersFirst hchoice w first second
    obtain ⟨e, others, hnext, hq⟩ := hsome hne
    exact ⟨e, others, hnext, hqueue hq⟩
  · subst hchoice
    obtain ⟨-, hsome⟩ := TxQueue.afterDeparture_choiceFirst (w := w) hfirst hsecond
    obtain ⟨e, others, hnext, hq⟩ := hsome hne
    exact ⟨e, others, hnext, hqueue hq⟩
  · subst hchoice
    obtain ⟨hnone, -⟩ := TxQueue.afterDeparture_choiceFirst (w := w) hfirst hsecond
    exact hqueue (hnone hempty)

/-! ### The departure (R44, R149, R158, R160) -/

/-- What a departure moves beside the queue, given what it makes of the queue and of the report's values (R149, R160). -/
theorem QueueAt.departed_of {q : TxQueue} {r : ReportScheduler} {abandoned : Bool} {choice : ChoiceOrder} {order : OfferOrder}
    (h : QueueAt s q r (conditionAfter abandoned e s) t) (hquiet : ReportsQuiet s (s.setReports r))
    (hoffers : ∀ offers : List TxEntry,
      (AlarmJoins abandoned e s s.line.waiting → ReportJoins s s.line.waiting →
        offers = if order = .alarmFirst then [.alarm none, .report none] else [.report none, .alarm none]) →
      (AlarmJoins abandoned e s s.line.waiting → ¬ ReportJoins s s.line.waiting → offers = [.alarm none]) →
      (¬ AlarmJoins abandoned e s s.line.waiting → ReportJoins s s.line.waiting → offers = [.report none]) →
      (¬ AlarmJoins abandoned e s s.line.waiting → ¬ ReportJoins s s.line.waiting → offers = []) →
      s.line.waiting.length + offers.length ≤ 6 → ChosenAfter choice s.line.waiting offers t.line)
    (hstays : ¬ ReportJoins s s.line.waiting → r = s.reports)
    (hjoins : ReportJoins s s.line.waiting → (AlarmJoins abandoned e s s.line.waiting → s.line.waiting.length ≠ 5) →
      r = queuedReports s s.reports)
    (hfull : ReportJoins s s.line.waiting → AlarmJoins abandoned e s s.line.waiting → s.line.waiting.length = 5 →
      r.reportDue = true ∧ q.entries.any TxEntry.isReport = false ∧ q.entries.any TxEntry.isAlarm = true) :
    Departed choice order (abandoned && (!s.latched .txAbandon && s.urgent .txAbandon)) e s
      (t.setCondition { t.condition with latches := s.condition.latches }) := by
  have hsame : t.condition.alarmDue = (s.condition.alarmDue && !e.isAlarm) := by rw [h.condition]; rfl
  refine ⟨h.unchanged.trans (by simp [Unchanged]), h.quiet, ?_, h.repliesLost, ?_, fun ⟨ha, _⟩ => ?_, fun hno => ?_, hoffers,
    fun hno => h.reports.trans (hstays hno), fun hyes hlen => h.reports.trans (hjoins hyes hlen), fun hyes ha hlen => ?_⟩
  · rw [ReportsQuiet, State.setCondition_reports, h.reports]
    exact hquiet
  · rw [State.setCondition_condition, h.condition]
    rfl
  · simp [hsame, ha]
  · rw [State.setCondition_condition, hsame]
    cases h1 : e.isAlarm <;> cases h2 : s.condition.alarmDue <;> simp_all
  · obtain ⟨hdue, hreport, halarm⟩ := hfull hyes ha hlen
    refine ⟨?_, ?_, ?_⟩
    · rw [State.setCondition_reports, h.reports]
      exact hdue
    · rw [State.setCondition_line, LineUnit.holdsReport, h.txEntries]
      exact hreport
    · rw [State.setCondition_line, LineUnit.holdsAlarm, h.txEntries]
      exact halarm

theorem Offered.short {joins : Prop} {x : TxEntry} {offer : List TxEntry} (h : Offered joins x offer) :
    offer = [] ∨ ∃ x, offer = [x] := h.symm.imp (·.2) fun h => ⟨x, h.2⟩

/-- The offers of a departure, in their order (log 7). -/
theorem offers_eq {J R : Prop} {a r offers : List TxEntry} {order : OfferOrder} (ha : Offered J (.alarm none) a)
    (hr : Offered R (.report none) r)
    (hboth : J → R → offers = if order = .alarmFirst then [.alarm none, .report none] else [.report none, .alarm none])
    (halarm : J → ¬ R → offers = [.alarm none]) (hreport : ¬ J → R → offers = [.report none]) (hno : ¬ J → ¬ R → offers = []) :
    offers = (if order = .alarmFirst then a else r) ++ (if order = .alarmFirst then r else a) := by
  rcases ha with ⟨hj, rfl⟩ | ⟨hj, rfl⟩ <;> rcases hr with ⟨hr, rfl⟩ | ⟨hr, rfl⟩
  · rw [hboth hj hr]
    split <;> rfl
  · rw [halarm hj hr]
    split <;> rfl
  · rw [hreport hj hr]
    split <;> rfl
  · rw [hno hj hr]
    split <;> rfl

/-- What the departure leaves of the report's values but for report-due and the timers (R42). -/
theorem reportsAfter_cases (s : State) (offer : List TxEntry) :
    reportsAfter s offer = s.reports ∨ reportsAfter s offer = QueueAt.queuedReports s s.reports := by
  unfold reportsAfter
  split
  · exact .inl rfl
  · exact .inr rfl

/-- The entry e of a station that speaks departs: five at most wait, none of them started, and no RESTART is to come. -/
structure Departs (e : TxEntry) (s : State) : Prop where
  speaking : s.speaking = true
  restartDue : s.command.restartDue = false
  unstarted : ∀ x ∈ s.line.waiting, x.started = false
  length_le : s.line.waiting.length ≤ 5
  inFlight : s.line.inFlight = some e

theorem EventOk.departs (h : EventOk s) (hdue : s.command.restartDue = false) (hin : s.line.inFlight = some e) : Departs e s := by
  have htx : s.line.txEntries.length ≤ 6 := h.queues.tx.1
  refine ⟨h.speaking_of_inFlight hin, hdue, h.queues.unstarted, ?_, hin⟩
  rw [LineUnit.txEntries, hin] at htx
  exact Nat.succ_le_succ_iff.1 htx

section Departed

variable (h : Departs e s) (hmarked : e.marked = false)
include h hmarked

/-- The departure of an entry that is no RESTART's reply, but for TX_ABANDON (R44, R149, R158, R160). -/
theorem departed (abandoned : Bool) (choice : ChoiceOrder) (order : OfferOrder) :
    let t := settle (depart abandoned choice order s)
    Departed choice order (abandoned && (!s.latched .txAbandon && s.urgent .txAbandon)) e s
        (t.setCondition { t.condition with latches := s.condition.latches })
      ∧ t.condition = conditionAfter abandoned e s := by
  intro t
  obtain ⟨hspeak, hdue, hun, hlen, hin⟩ := h
  obtain ⟨a, ha⟩ := exists_offered (AlarmJoins abandoned e s s.line.waiting) (.alarm none)
  obtain ⟨r, hr⟩ := exists_offered (ReportJoins s s.line.waiting) (.report none)
  by_cases hroom : s.line.waiting.length + (a.length + r.length) ≤ 6
  · have h := depart_room hspeak hdue hun hin hmarked choice order ha hr hroom
    refine ⟨h.departed_of ?_ ?_ ?_ ?_ ?_, h.condition⟩
    · rcases reportsAfter_cases s r with hreports | hreports <;> rw [hreports] <;> exact ⟨rfl, rfl, rfl⟩
    · intro offers hboth halarm hreport hno _
      rw [offers_eq ha hr hboth halarm hreport hno]
      refine chosenAfter h ?_ ?_ <;> split
      · exact ha.short
      · exact hr.short
      · exact hr.short
      · exact ha.short
    · intro hno
      rcases hr with ⟨hyes, -⟩ | ⟨-, rfl⟩
      · exact absurd hyes hno
      · rfl
    · intro hyes _
      rcases hr with ⟨-, rfl⟩ | ⟨hno, -⟩
      · rfl
      · exact absurd hyes hno
    · intro hyes hj hfive
      rcases ha with ⟨-, rfl⟩ | ⟨hno, -⟩
      · rcases hr with ⟨-, rfl⟩ | ⟨hno, -⟩
        · simp [hfive] at hroom
        · exact absurd hyes hno
      · exact absurd hj hno
  · obtain ⟨hj, hyes, hfive⟩ : AlarmJoins abandoned e s s.line.waiting ∧ ReportJoins s s.line.waiting ∧ s.line.waiting.length = 5 := by
      rcases ha with ⟨hj, rfl⟩ | ⟨-, rfl⟩ <;> rcases hr with ⟨hyes, rfl⟩ | ⟨-, rfl⟩ <;>
        simp only [List.length_cons, List.length_nil] at hroom
      · exact ⟨hj, hyes, by omega⟩
      all_goals omega
    obtain ⟨q, r, h, hq, hreports⟩ := depart_full hspeak hdue hun hin hmarked choice order hj hyes hfive
    refine ⟨h.departed_of ?_ ?_ ?_ ?_ ?_, h.condition⟩
    · rcases hreports with rfl | rfl <;> exact ⟨rfl, rfl, rfl⟩
    · intro offers hboth _ _ _ hroom
      rw [hboth hj hyes, hfive] at hroom
      cases order <;> exact absurd hroom (by decide)
    · exact fun hno => absurd hyes hno
    · exact fun _ hne => absurd hfive (hne hj)
    · intro _ _ _
      obtain ⟨hdue, -, hnone⟩ := hyes
      refine ⟨?_, ?_, ?_⟩
      · rcases hreports with rfl | rfl
        exacts [hdue, rfl]
      · rw [hq.any_eq, List.any_append, hnone]
        rfl
      · rw [hq.any_eq, List.any_append]
        exact Bool.or_true _

end Departed

/-! ### The line freed (R160) -/

/-- The departure of an entry that was sent (R44, R149, R158). -/
theorem departed_sent (h : Departs e s) (hmarked : e.marked = false) (choice : ChoiceOrder) (order : OfferOrder) :
    Departed choice order false e s (settle (depart false choice order s)) := by
  obtain ⟨hdeparted, hcondition⟩ := departed h hmarked false choice order
  have hlatches : (settle (depart false choice order s)).condition.latches = s.condition.latches := by
    rw [hcondition]
    rfl
  rw [← hlatches] at hdeparted
  exact hdeparted

/-- TX_ABANDON is latched at the departure of an abandoned entry, and no other latch moves (R160). -/
theorem latched_conditionAfter (h : t.condition = conditionAfter true e s) (l : Latch) :
    t.latched l = (s.latched l || decide (l = .txAbandon)) := by
  have hlatched : t.latched l = if s.latched .txAbandon = true then s.latched l else (markLatch .txAbandon s).latched l := by
    rw [State.latched, h, conditionAfter]
    cases s.latched .txAbandon <;> rfl
  rw [hlatched]
  split
  next hset => cases l <;> simp_all
  next => exact markLatch_latched ..


/-- The station whose entry in flight is abandoned, the entry counted and the line BUSY (R160). -/
def State.abandonedOne (s : State) : State :=
  s.setLine { s.line with
    lineState := .busy
    abandoned := countUp s.line.abandoned }

theorem setLatch_inFlight (l : Latch) (s : State) : (setLatch l s).line.inFlight = s.line.inFlight := by simp

/-- After the latch TX_ABANDON, set first, the abandoned entry departs from a queue in order (R160). -/
theorem departs_setLatch (h : EventOk s) (hdue : (setLatch .txAbandon s.abandonedOne).command.restartDue = false)
    (hjam : s.line.lineState = .jam) (hin : s.line.inFlight = some e) : Departs e (setLatch .txAbandon s.abandonedOne) := by
  obtain ⟨-, -, hw, hh, hdraw, hflight, hown, -, hrec, hrest, hsil, hiso⟩ := h.attempt
  have hquiet : s.line.sending = [] := by
    by_contra hne
    exact absurd (hjam.symm.trans (hown.2 hne)) (by decide)
  have hrested : EventOk (restAttempts s.abandonedOne) :=
    h.setLine ⟨h.queues.1, h.queues.2, h.queues.3, h.queues.4, h.queues.5, h.queues.6⟩
      ⟨Nat.zero_le 8, nofun, hw, hh, hdraw, fun _ => hflight (.inr hjam), by simp [State.abandonedOne, hquiet], nofun, hrec.busy,
        fun hs => ⟨rfl, (hrest hs).2⟩, hsil, hiso⟩
  have hset := hrested.setLatch .txAbandon
  rw [setLatch_restAttempts] at hset
  obtain ⟨hspeak, hdue, hun, hlen, hin⟩ := hset.departs hdue ((setLatch_inFlight ..).trans hin)
  exact ⟨hspeak, hdue, hun, hlen, hin⟩

theorem jamEnd_of_last_attempt (hjam : s.line.lineState = .jam) (hlast : s.line.attempts = 8) (choice : ChoiceOrder)
    (order : OfferOrder) : jamEnd choice order s = abandon choice order s.abandonedOne := by
  unfold jamEnd
  rw [if_pos hjam]
  refine if_neg ?_
  simp [hlast, Config.maxAttempts]

/-- Settles O53, by following the queue from the departure to the end of the event, and before it the latch of
latchFirst. -/
theorem departureFreesLine : Obligations.DepartureFreesLine := by
  intro choice order e s hs hin hmarked
  have hdeparts := hs.eventOk.departs hs.settled.1 hin
  obtain ⟨hspeak, hdue, hun, hlen, -⟩ := hdeparts
  refine ⟨fun hown => ?_, fun hown => hs.exec_of_event (c := .entrySent choice order) (if_neg hown) rfl, ?_⟩
  · refine ⟨_, hs.exec_event (.entrySent choice order), ?_⟩
    have hevent : eventOf (.entrySent choice order) s = depart false choice order
        (s.setLine { s.line with
          lineState := .busy
          sending := [] }) := if_pos hown
    rw [hevent]
    refine departed_sent ⟨?_, ?_, ?_, ?_, ?_⟩ hmarked choice order
    exacts [hspeak, hdue, hun, hlen, hin]
  · intro counted hjam hlast
    have hevent : eventOf (.jamEnd choice order) s = abandon choice order s.abandonedOne :=
      jamEnd_of_last_attempt hjam hlast choice order
    have hcounted : Departs e s.abandonedOne := ⟨hspeak, hdue, hun, hlen, hin⟩
    have hexec := hs.exec_event (.jamEnd choice order)
    refine ⟨fun hchoice => ?_, ?_⟩
    · have habandon : abandon choice order s.abandonedOne = depart true choice order s.abandonedOne := by
        cases choice with
        | latchFirst => exact absurd rfl hchoice
        | choiceFirst => rfl
        | offersFirst => rfl
      rw [hevent, habandon] at hexec
      obtain ⟨hdeparted, hcondition⟩ := departed hcounted hmarked true choice order
      have hlatched := latched_conditionAfter hcondition
      refine ⟨_, _, hexec, hdeparted, rfl, ?_, fun l hl => ?_⟩
      · rw [hlatched]
        exact Bool.or_true _
      · rw [hlatched, decide_eq_false hl, Bool.or_false]
        rfl
    · rintro rfl
      have hrestart := restarted_of_event (c := .jamEnd .latchFirst order) (s := s) rfl
      rw [hevent] at hexec hrestart
      have hflight : (setLatch .txAbandon s.abandonedOne).line.inFlight = some e := (setLatch_inFlight ..).trans hin
      refine ⟨_, hexec, ?_⟩
      rcases setLatch_settled (s := s.abandonedOne) hs.settled (not_starting_of_speaking hspeak) hs.waiting_reports .txAbandon with
        ⟨hd, hset⟩ | ⟨hd, hset, hafter⟩
      · refine ⟨fun _ => hrestart ?_, fun hno => absurd hd hno⟩
        have htx : (setLatch .txAbandon s.abandonedOne).line.txCount ≤ 6 := setLatch_txCount_le _ hs.eventOk.queues.tx.1
        rw [abandon, depart_restartDue hflight htx, hset, Bool.true_or]
      · refine ⟨fun hyes => absurd hyes hd, fun _ => ⟨setLatch .txAbandon s.abandonedOne, ?_, ?_⟩⟩
        · rwa [arbitrate_of_inFlight hflight] at hafter
        · exact departed_sent (departs_setLatch hs.eventOk hset hjam hin) hmarked .latchFirst order

end Sys2Proof.Machine
end
